-- ==== Sys2Proof/Word.lean ====
section
/-! DEFINITION. The words the ZP-440's buses carry: desk-port bytes and addresses, the sixteen-bit
fields of the desk map, key sets and sample counts. -/

namespace Sys2Proof

/-- A byte of the desk port, or a character of a player link. -/
abbrev Byte := BitVec 8

/-- An address of the desk map, or the two bytes of a sixteen-bit field (R169, R171). -/
abbrev Half := BitVec 16

/-- A thirty-two-bit count or phase, which wraps (R131, R139). -/
abbrev Word := BitVec 32

/-- A set of the keys K0 to K23, K0 in bit 0 (R70, R183). -/
abbrev KeySet := BitVec 24

end Sys2Proof
end

