-- ==== Sys2Proof/Config.lean ====
section
/-! DEFINITION. The capacities that fix the types of the model (spec/00_scope.md, "Capacities") and
nothing else: the spec leaves no value free, so there is no open constant here. The constants an
event's arithmetic uses stand in Machine/Tables.lean. -/

namespace Sys2Proof.Config

/-- Players and player links, P0 to P3. -/
abbrev numPlayers : Nat := 4
/-- Voices, V0 to V63. -/
abbrev numVoices : Nat := 64
/-- Setups, S0 to S15. -/
abbrev numSetups : Nat := 16
/-- Layers of a setup. -/
abbrev numLayers : Nat := 4
/-- Chart slots, C0 to C7. -/
abbrev numCharts : Nat := 8
/-- Entries of one chart. -/
abbrev numEntries : Nat := 64
/-- Breath curves, B0 to B7. -/
abbrev numCurves : Nat := 8
/-- Points of one curve. -/
abbrev numPoints : Nat := 17
/-- Wave tables, W0 to W15. -/
abbrev numWaves : Nat := 16

end Sys2Proof.Config
end

