-- ==== Sys2Proof/Syntax.lean ====
section
/-! DEFINITION. The commands of the ZP-440: one constructor of `Instr` for each row of
spec/opcode_table.json, with the operands of the event the row names. -/

namespace Sys2Proof

abbrev Player := Fin Config.numPlayers
abbrev VoiceId := Fin Config.numVoices
abbrev SetupId := Fin Config.numSetups
abbrev LayerId := Fin Config.numLayers
abbrev ChartSlot := Fin Config.numCharts
abbrev EntryId := Fin Config.numEntries
abbrev CurveId := Fin Config.numCurves
abbrev WaveId := Fin Config.numWaves

/-- What a valid frame of an instrument carries beside its kind: the sequence number of its header and
its data characters 1 to 8, seven bits each (R154, R183). The check character is implied: the frame is valid. -/
structure FrameBody where
  seq : BitVec 4
  c1 : BitVec 7
  c2 : BitVec 7
  c3 : BitVec 7
  c4 : BitVec 7
  c5 : BitVec 7
  c6 : BitVec 7
  c7 : BitVec 7
  c8 : BitVec 7
deriving DecidableEq, Repr

/-- How a character came in: whether its stop bit is at the stop level, and whether its start bit began before
the receiver last began to take characters (R151, R160; log 27). -/
structure Reception where
  stopOk : Bool
  early : Bool
deriving DecidableEq, Repr

/-- The three status bytes the desk reads (R180). -/
inductive StatusByte where
  | statusA (p : Player)
  | statusB (p : Player)
  | global
deriving DecidableEq, Repr

/-- The three kinds of mask byte (R181). -/
inductive MaskByte where
  | maskA (p : Player)
  | maskB (p : Player)
  | global
deriving DecidableEq, Repr

/-- The two bytes of the breath level read-out (R171). -/
inductive HalfByte where
  | low
  | high
deriving DecidableEq, Repr

/-- The commands: the rows of spec/opcode_table.json, in its order. -/
inductive Instr where
  /-- POWER_ON: power is applied (R78). -/
  | powerOn
  /-- SAMPLE_PERIOD: one sample period of the renderer (R131, R132). -/
  | samplePeriod
  /-- FADE_END: the pool takes the reported fade end of a voice (R99, R100). -/
  | fadeEnd (v : VoiceId)
  /-- RELEASE_END: the pool takes the reported release end of a voice (R101). -/
  | releaseEnd (v : VoiceId)
  /-- LEARN_TIMEOUT: the deadline of a player's pending learn (R59). -/
  | learnTimeout (p : Player)
  /-- SILENCE_TIMEOUT: the silence count of a player's link has reached 2,400 (R158). -/
  | silenceTimeout (p : Player)
  /-- CHARACTER: a character ends its stop bit, come in as `rx` says (R151). -/
  | character (p : Player) (data : Byte) (rx : Reception)
  /-- SENSE_FRAME: a valid SENSE frame is taken (R155). -/
  | senseFrame (p : Player) (f : FrameBody)
  /-- HELLO: a valid HELLO frame is taken (R155, R157). -/
  | hello (p : Player) (f : FrameBody)
  /-- LEARN_REQ: a valid LEARN_REQ frame is taken (R52, R53). -/
  | learnReq (p : Player) (f : FrameBody)
  /-- REPLY_SEND_START: two bit periods after the frame's stop bit (R163). -/
  | replySendStart (p : Player)
  /-- REPLY_SENT: the sixth reply character ends (R163). -/
  | replySent (p : Player)
  /-- REPLY_SLOT_CLOSED: the instrument begins a character in an open slot (R164). -/
  | replySlotClosed (p : Player)
  /-- COLLISION: the instrument begins a character while the part sends (R164). -/
  | collision (p : Player)
  /-- INTERRUPT_PULSE_END: an EDGE pulse has lasted its 32 reference periods (R182). -/
  | interruptPulseEnd
  /-- TRANSACTION_START: select goes active, with the operation byte and the address (R169). -/
  | transactionStart (op : Byte) (addr : Half)
  /-- TRANSACTION_END: select goes inactive (R48, R169). -/
  | transactionEnd
  /-- DESK_WRITE: a data byte at a desk-map byte that has no row of its own (R170). -/
  | deskWrite (addr : Half) (value : Byte)
  /-- SOFT_RESET: a write of the request byte 1 with the argument in its low four bits (R173, R174). -/
  | softReset (arg : BitVec 4)
  /-- PANIC: request code 2 (R104, R173). -/
  | panic (arg : BitVec 4)
  /-- RESTORE_CHART: request code 3, the argument a chart slot (R50, R173). -/
  | restoreChart (arg : BitVec 4)
  /-- ZERO_CAPTURE: request code 4, the argument a player (R4, R173). -/
  | zeroCapture (arg : BitVec 4)
  /-- LINK_RESET: request code 5, the argument a player (R161, R173). -/
  | linkReset (arg : BitVec 4)
  /-- LINK_DISABLE: a link enable write with its lowest bit clear; `upper` is its bits 7 to 1 (R160). -/
  | linkDisable (p : Player) (upper : BitVec 7)
  /-- LINK_ENABLE: a link enable write with its lowest bit set; `upper` is its bits 7 to 1 (R160). -/
  | linkEnable (p : Player) (upper : BitVec 7)
  /-- ENTRY_HOLDING_BUFFER_WRITE: a write of byte 0 to 6 of a chart entry (R47). -/
  | entryHoldingBufferWrite (n : ChartSlot) (e : EntryId) (b : Fin 7) (value : Byte)
  /-- CHART_ENTRY_FLAGS_WRITE: a write of byte 7 of a chart entry (R47). -/
  | chartEntryFlagsWrite (n : ChartSlot) (e : EntryId) (value : Byte)
  /-- MASTER_TUNING_WRITE (R119, R125). -/
  | masterTuningWrite (value : Byte)
  /-- RESERVE_WRITE (R83). -/
  | reserveWrite (p : Player) (value : Byte)
  /-- QUEUE_THRESHOLD_WRITE (R178). -/
  | queueThresholdWrite (p : Player) (value : Byte)
  /-- MASK_WRITE (R181). -/
  | maskWrite (m : MaskByte) (value : Byte)
  /-- INTERRUPT_MODE_WRITE (R182). -/
  | interruptModeWrite (value : Byte)
  /-- INTERRUPT_POLARITY_WRITE (R182). -/
  | interruptPolarityWrite (value : Byte)
  /-- EVENT_WINDOW_READ: a read at a player's event window (R179). -/
  | eventWindowRead (p : Player)
  /-- STATUS_READ: a read of a status byte (R180). -/
  | statusRead (b : StatusByte)
  /-- BREATH_LEVEL_READ: a read of a byte of the breath level (R171). -/
  | breathLevelRead (p : Player) (h : HalfByte)
deriving DecidableEq, Repr

end Sys2Proof
end

