-- ==== Sys2Proof/Decode.lean ====
section
/-! DEFINITION. The commands that a word spells by spec/opcode_table.json. The table's rows have no
fields and no fixed bits (spec/98_reader.md counts none), so no word of any width spells a command. -/

namespace Sys2Proof

/-- The command that `w` spells in `nbits` bits: none, since the table gives no row any bits. -/
def decodeTableWord (_nbits _w : Nat) : Option Instr := none

end Sys2Proof
end

