-- ==== Sys2Proof/Machine/Types.lean ====
section
/-! DEFINITION. The records that `State` holds: voices, notes, setups, chart entries, event records,
replies and the transaction in progress, field by field as the spec's tables give them. -/

namespace Sys2Proof.Machine

/-- The five states of a voice (R79). -/
inductive VoiceState where
  | free
  | sounding
  | releasing
  | latched
  | fading
deriving DecidableEq, Repr

/-- The layer and setup fields copied into a voice (R74). -/
structure Copies where
  interval : Int
  detune : Int
  waveA : WaveId
  waveB : WaveId
  morphEnable : Bool
  gain : Nat
  pan : Nat
  glideStep : Nat
  riseStep : Nat
  fallStep : Nat
  releaseStep : Nat
deriving DecidableEq, Repr

/-- An open claim: the player, note and layer that receive a fading voice (R78, R98). -/
structure Claim where
  player : Player
  tag : BitVec 8
  layer : LayerId
deriving DecidableEq, Repr

/-- What a voice that is not FREE has: owner, bus player, note tag and layer (R78). -/
structure VoiceUse where
  owner : Player
  bus : Player
  tag : BitVec 8
  layer : LayerId
deriving DecidableEq, Repr

/-- A voice record (R78, R118). -/
structure Voice where
  state : VoiceState
  use : Option VoiceUse
  stamp : BitVec 16
  copies : Copies
  glideCurrent : Nat
  glideTarget : Nat
  bend : Int
  increment : Nat
  phase : Word
  amplitude : Nat
  target : Nat
  morph : Nat
  claim : Option Claim
  /-- The renderer has reported the voice's end and the pool has not taken it yet (R140; log 2). -/
  endReported : Bool
deriving DecidableEq, Repr

/-- The range flag of a resolution (R38, R39). -/
inductive RangeFlag where
  | plain
  | folded
  | clamped
deriving DecidableEq, Repr

/-- An item of a binding list: a voice, an open claim on a fading voice, or "denied" (R84). -/
inductive BindItem where
  | voice (v : VoiceId)
  | claim (v : VoiceId)
  | denied
deriving DecidableEq, Repr

/-- A binding item with the layer it stands for (R84). -/
structure Binding where
  layer : LayerId
  item : BindItem
deriving DecidableEq, Repr

/-- A note instance, the player's current note (R84). -/
structure Note where
  tag : BitVec 8
  number : Nat
  flag : RangeFlag
  setup : SetupId
  binding : List Binding
deriving DecidableEq, Repr

/-- An entry of a latch stack (R107). -/
structure LatchEntry where
  tag : BitVec 8
  number : Nat
  flag : RangeFlag
  glide : Nat
  bend : Int
  voices : List VoiceId
deriving DecidableEq, Repr

/-- A learn record (R51). -/
structure LearnRecord where
  slot : ChartSlot
  entry : EntryId
  offset : Int
  deadline : Word
deriving DecidableEq, Repr

/-- The breath states; the onset count is present only in PENDING (R2, R8). -/
inductive BreathState where
  | quiet
  | pending (count : Nat)
  | breathing
  | muted
deriving DecidableEq, Repr

/-- What the front end reports of a frame (R18). -/
inductive BreathReport where
  | none
  | onset
  | noteOff
deriving DecidableEq, Repr

/-- The trill phase, with the frames that remain in ON and OFF (R19). -/
inductive Trill where
  | stopped
  | on (left : Nat)
  | off (left : Nat)
deriving DecidableEq, Repr

/-- The resolution handed to the note controller (R42). Bend, policy and accepted keys are read from the
resolver record and the active setup. -/
inductive Resolution where
  | matched (note : Nat) (flag : RangeFlag)
  | unmatched
deriving DecidableEq, Repr

/-- The bit rates of a player link (R150). -/
inductive Rate where
  | r250
  | r500
  | r1000
deriving DecidableEq, Repr

/-- The link states (R149). -/
inductive LinkState where
  | down
  | up
  | lost
deriving DecidableEq, Repr

/-- The known frame kinds of an instrument (R153). -/
inductive FrameKind where
  | sense
  | hello
  | learnReq
deriving DecidableEq, Repr

/-- A valid frame (R153). -/
structure Frame where
  kind : FrameKind
  body : FrameBody
deriving DecidableEq, Repr

/-- The reply slot: IDLE, OPEN with the sequence number the reply echoes, or SENDING the six characters
of the reply in transmission (R149, R163, R165). -/
inductive ReplySlot where
  | idle
  | opened (seq : BitVec 4)
  | sending (chars : List Byte)
deriving DecidableEq, Repr

/-- The result and reason codes of a LEARN_RESULT reply (R184). -/
inductive LearnResult where
  | ok
  | okShadowed
  | busy
  | refused
  | timeout
  | preempted
  | cancelled
deriving DecidableEq, Repr

/-- The replies that wait in a reply queue, with the contents fixed when they are placed (R162, R167). -/
inductive Reply where
  | denied (note : Nat) (layer : LayerId)
  | taken (note : Nat) (layer : LayerId) (v : VoiceId)
  | latchDropped (note : Nat)
  | learnResult (slot : Nat) (result : LearnResult) (entry : Nat)
deriving DecidableEq, Repr

/-- The kinds of event record (R176, R185). -/
inductive EventKind where
  | noteOn
  | noteChange
  | noteOff
  | voiceDenied
  | voiceTaken
  | latchPush
  | latchDrop
  | latchClear
  | learnDone
  | learnEnded
  | setupApplied
  | linkUp
  | linkLost
deriving DecidableEq, Repr

/-- An event record (R176). -/
structure EventRecord where
  kind : EventKind
  tag : BitVec 8
  note : Byte
  flags : Byte
  value : Half
  time : Word
deriving DecidableEq, Repr

/-- Why a link left UP, as LINK_LOST reports it (R158, R160, R161, R185). -/
inductive LostCause where
  | silence
  | disabled
  | reset
deriving DecidableEq, Repr

/-- Why a note ended, as NOTE_OFF reports it (R89, R185). -/
inductive OffReason where
  | breath
  | unmatched
  | link
  | panic
deriving DecidableEq, Repr

/-- The unmatched policy (R36). -/
inductive Policy where
  | hold
  | silent
deriving DecidableEq, Repr

/-- An override entry: its kind and value (R32, R69). -/
inductive Override where
  | shift (octaves : Int)
  | fixed (note : Nat)
deriving DecidableEq, Repr

/-- A layer record of a setup (R66). -/
structure Layer where
  enable : Bool
  interval : Int
  detune : Int
  waveA : WaveId
  waveB : WaveId
  morphEnable : Bool
  gain : Nat
  pan : Nat
deriving DecidableEq, Repr

/-- A setup record (R63 to R66). -/
structure Setup where
  chartSlot : ChartSlot
  keyMask : KeySet
  trillSet : KeySet
  trillOn : Nat
  trillOff : Nat
  settleWindow : Nat
  override1 : Override
  override2 : Override
  override3 : Override
  policy : Policy
  baseNote : Nat
  transpose : Int
  rangeLow : Nat
  rangeHigh : Nat
  curve : CurveId
  onset : Nat
  release : Nat
  smoothing : Nat
  biteRest : Nat
  bendDepth : Nat
  glideStep : Nat
  riseStep : Nat
  fallStep : Nat
  releaseStep : Nat
  layers : Vector Layer Config.numLayers
deriving DecidableEq, Repr

/-- A chart entry, with the reservation the chart store keeps beside it (R44). -/
structure ChartEntry where
  valid : Bool
  pattern : KeySet
  care : KeySet
  offset : Int
  learned : Bool
  reservation : Option Player
deriving DecidableEq, Repr

/-- One chart of 64 entries (R44). -/
abbrev Chart := Vector ChartEntry Config.numEntries

/-- One breath curve of 17 points (R13). -/
abbrev Curve := Vector Nat Config.numPoints

/-- The interrupt modes (R182). -/
inductive IntMode where
  | level
  | edge
deriving DecidableEq, Repr

/-- The interrupt polarities (R182). -/
inductive IntPolarity where
  | activeLow
  | activeHigh
deriving DecidableEq, Repr

/-- The operation of a desk transaction (R169). -/
inductive DeskOp where
  | read
  | write
  | void
deriving DecidableEq, Repr

/-- The transaction in progress: its operation, the address of the data byte now on the port, the data bytes
before it, the entry holding buffer (R47), the captured high byte of a breath level (R171) and the byte the port
drives out: in a read transaction the byte read at `addr`, taken at the end of the byte before it (R169). -/
structure Transaction where
  op : DeskOp
  addr : Half
  count : Nat
  hold : Vector (Option Byte) 7
  captured : Option Byte
  out : Byte
deriving DecidableEq, Repr

end Sys2Proof.Machine
end

