-- ==== Sys2Proof/Machine/Tables.lean ====
section
/-! DEFINITION. The constants the part's arithmetic uses: counts and limits, the semitone and cent
tables, the sine of W0 and the reference chart image. -/

namespace Sys2Proof.Machine

/-- Sample periods without a valid sense frame after which a link is LOST (R158). -/
def silenceLimit : Nat := 2400
/-- Sample periods from a learn's acceptance to its deadline (R52). -/
def learnPeriods : Word := 96000
/-- The fixed fade step, amplitude units per sample period (R96, R136). -/
def fadeStep : Nat := 1024
/-- Records an event queue holds (R176). -/
def eventQueueSize : Nat := 32
/-- Replies a reply queue holds (R162). -/
def replyQueueSize : Nat := 8
/-- Entries a latch stack holds (R107). -/
def latchStackSize : Nat := 4

/-- The increment of note 0 (R126). -/
def baseConstant : Nat := 731558

/-- SEMI: 65,536 times 2 to the power i/12, rounded to nearest (R127). -/
def semiTable : List Nat :=
  [65536, 69433, 73562, 77936, 82570, 87480, 92682, 98193, 104032, 110218, 116772, 123715]

/-- CENT: 65,536 times 2 to the power r/1200, rounded to nearest (R128; log 21). -/
def centTable : List Nat :=
    [65536, 65574, 65612, 65650, 65688, 65726, 65764, 65802, 65840, 65878]
    ++ [65916, 65954, 65992, 66030, 66068, 66106, 66144, 66183, 66221, 66259]
    ++ [66297, 66336, 66374, 66412, 66451, 66489, 66528, 66566, 66605, 66643]
    ++ [66682, 66720, 66759, 66797, 66836, 66874, 66913, 66952, 66990, 67029]
    ++ [67068, 67107, 67145, 67184, 67223, 67262, 67301, 67340, 67378, 67417]
    ++ [67456, 67495, 67534, 67573, 67612, 67651, 67691, 67730, 67769, 67808]
    ++ [67847, 67886, 67926, 67965, 68004, 68043, 68083, 68122, 68161, 68201]
    ++ [68240, 68280, 68319, 68359, 68398, 68438, 68477, 68517, 68556, 68596]
    ++ [68635, 68675, 68715, 68755, 68794, 68834, 68874, 68914, 68953, 68993]
    ++ [69033, 69073, 69113, 69153, 69193, 69233, 69273, 69313, 69353, 69393]

/-- The first quarter of the power-on sine: 32,767 times the sine of 2π j / 256 for j from 0 to 64,
rounded to nearest (R142; log 21). -/
def sineQuarter : List Int :=
    [0, 804, 1608, 2410, 3212, 4011, 4808, 5602, 6393, 7179, 7962]
    ++ [8739, 9512, 10278, 11039, 11793, 12539, 13279, 14010, 14732, 15446, 16151]
    ++ [16846, 17530, 18204, 18868, 19519, 20159, 20787, 21403, 22005, 22594, 23170]
    ++ [23731, 24279, 24811, 25329, 25832, 26319, 26790, 27245, 27683, 28105, 28510]
    ++ [28898, 29268, 29621, 29956, 30273, 30571, 30852, 31113, 31356, 31580, 31785]
    ++ [31971, 32137, 32285, 32412, 32521, 32609, 32678, 32728, 32757, 32767]

/-- Entry j of W0 at power-on, by the quarter-wave symmetry of the sine (R142). -/
def sineEntry (j : Nat) : Int :=
  if j ≤ 64 then sineQuarter.getD j 0
  else if j ≤ 128 then sineQuarter.getD (128 - j) 0
  else if j ≤ 192 then -sineQuarter.getD (j - 128) 0
  else -sineQuarter.getD (256 - j) 0

/-- The identification fields: vendor code, part code and revision (R172). -/
def vendorCode : Byte := 0xA7
def partCode : Half := 0x0440
def revisionCode : Byte := 1

/-- The operation codes of a desk transaction; any other value makes it void (R169, R186). -/
def deskOpOf (op : Byte) : DeskOp :=
  if op = 0x6A then .write else if op = 0x6B then .read else .void

/-- A blank chart entry (R44). -/
def blankEntry : ChartEntry :=
  { valid := false, pattern := 0, care := 0, offset := 0, learned := false, reservation := none }

/-- An entry of the reference image: valid, not learned, not reserved (R43). -/
def imageEntry (care pattern : KeySet) (offset : Int) : ChartEntry :=
  { valid := true, pattern := pattern, care := care, offset := offset, learned := false,
    reservation := none }

/-- Entries 0 to 14 of the reference image; key K0 is bit 0 (R43). -/
def imageHead : List ChartEntry :=
  [imageEntry 0x7F 0x7F 1, imageEntry 0x7F 0x5F 3, imageEntry 0x7F 0x4F 5, imageEntry 0x7F 0x47 6,
   imageEntry 0x7F 0x43 8, imageEntry 0x7F 0x41 10, imageEntry 0x7F 0x40 12, imageEntry 0x7F 0x3F 0]
  ++ [imageEntry 0x7F 0x1F 2, imageEntry 0x7F 0x0F 4, imageEntry 0x7F 0x07 5, imageEntry 0x7F 0x03 7,
   imageEntry 0x7F 0x01 9, imageEntry 0x7F 0x00 11, imageEntry 0x3F 0x3E 12]

/-- The reference image: fifteen entries, then blank ones (R43, R50). -/
def referenceChart : Chart :=
  ⟨(imageHead ++ List.replicate 49 blankEntry).toArray, by rfl⟩

/-- A chart of blank entries (R44). -/
def blankChart : Chart := Vector.replicate _ blankEntry

end Sys2Proof.Machine
end

