-- ==== Sys2Proof/Machine/Defaults.lean ====
section
/-! DEFINITION. The power-on values of the tables and records (R13, R44, R62 to R66, R78). -/

namespace Sys2Proof.Machine

/-- The default layer record; only layer 0 is enabled (R66). -/
def defaultLayer (enable : Bool) : Layer :=
  { enable := enable, interval := 0, detune := 0, waveA := 0, waveB := 0, morphEnable := false,
    gain := 128, pan := 64 }

/-- The default setup record (R63 to R66). -/
def defaultSetup : Setup :=
  { chartSlot := 0, keyMask := 0xFFFFFF, trillSet := 0, trillOn := 4, trillOff := 4, settleWindow := 2,
    override1 := .shift 1, override2 := .shift 2, override3 := .shift (-1), policy := .hold,
    baseNote := 62, transpose := 0, rangeLow := 24, rangeHigh := 108, curve := 0, onset := 200,
    release := 120, smoothing := 8, biteRest := 0, bendDepth := 100, glideStep := 0, riseStep := 256,
    fallStep := 256, releaseStep := 64,
    layers := #v[defaultLayer true, defaultLayer false, defaultLayer false, defaultLayer false] }

/-- The fields a voice copies from a setup and one of its layers (R74). -/
def copiesOf (st : Setup) (l : LayerId) : Copies :=
  let layer := st.layers[l]
  { interval := layer.interval, detune := layer.detune, waveA := layer.waveA, waveB := layer.waveB,
    morphEnable := layer.morphEnable, gain := layer.gain, pan := layer.pan, glideStep := st.glideStep,
    riseStep := st.riseStep, fallStep := st.fallStep, releaseStep := st.releaseStep }

/-- A voice record at power-on and after a soft reset: the copies are the defaults of layer 0 (R78, R118). -/
def resetVoice : Voice :=
  { state := .free, use := none, stamp := 0, copies := copiesOf defaultSetup 0, glideCurrent := 0,
    glideTarget := 0, bend := 0, increment := 0, phase := 0, amplitude := 0, target := 0, morph := 0,
    claim := none, endReported := false }

/-- The free queue at power-on and after a soft reset: V0 to V63, V0 at the head (R80). -/
def fullFreeQueue : List VoiceId := List.finRange Config.numVoices

/-- The linear curve of power-on (R13). -/
def linearCurve : Curve :=
  #v[0, 64, 128, 192, 256, 320, 384, 448, 512, 576, 640, 704, 768, 832, 896, 960, 1023]

/-- The chart store at power-on: the reference image in C0, blank entries elsewhere (R44). -/
def powerOnCharts : Vector Chart Config.numCharts :=
  #v[referenceChart, blankChart, blankChart, blankChart, blankChart, blankChart, blankChart, blankChart]

end Sys2Proof.Machine
end

