-- ==== Sys2Proof/Machine/Memory.lean ====
section
/-! DEFINITION. The wave store as a memory of bytes: a canonical list of cells over the desk-map
addresses 0x2000 to 0x3FFF, where an unlisted address reads as its power-on contents (R142, R143; log 23). -/

namespace Sys2Proof.Machine

/-- The bytes of the wave store that differ from their power-on contents, addresses strictly rising. -/
abbrev Memory := List Host.Cell

/-- What an unlisted address reads as: byte a of W0 is a byte of its sine entry, low byte first; every
other byte is 0 (R142, R143). -/
def Memory.powerOn (a : Nat) : Byte :=
  if 0x2000 ≤ a ∧ a < 0x2200 then
    let entry := BitVec.ofInt 16 (sineEntry ((a - 0x2000) / 2))
    if a % 2 = 0 then entry.extractLsb' 0 8 else entry.extractLsb' 8 8
  else 0

/-- The byte at an address. -/
def Memory.read : Memory → Nat → Byte
  | [], a => Memory.powerOn a
  | (k, b) :: m, a => if a = k then b else Memory.read m a

/-- The memory with `b` in front of cells of higher address, listed only where it differs from the
power-on contents. -/
def Memory.cons (a : Nat) (b : Byte) (m : Memory) : Memory :=
  if b = Memory.powerOn a then m else (a, b) :: m

/-- Write one byte, keeping the canonical form. -/
def Memory.write : Memory → Nat → Byte → Memory
  | [], a, b => Memory.cons a b []
  | (k, x) :: m, a, b =>
    if a < k then Memory.cons a b ((k, x) :: m)
    else if a = k then Memory.cons a b m
    else (k, x) :: Memory.write m a b

/-- Addresses above `lo` strictly rise and no cell holds what its address reads as unlisted. -/
def Memory.canonicalAbove (lo : Nat) : Memory → Bool
  | [] => true
  | (k, b) :: m => lo ≤ k && b != Memory.powerOn k && Memory.canonicalAbove (k + 1) m

/-- The canonical form. -/
def Memory.wf (m : Memory) : Bool := Memory.canonicalAbove 0 m

/-- Write a sixteen-bit entry, low byte first (R143). -/
def Memory.writeHalf (m : Memory) (a : Nat) (v : Half) : Memory :=
  Memory.write (Memory.write m a (v.extractLsb' 0 8)) (a + 1) (v.extractLsb' 8 8)

/-- The desk-map address of entry j of wave table n (R143). -/
def waveAddress (n : WaveId) (j : Nat) : Nat := 0x2000 + 512 * n.val + 2 * j

/-- Entry j of wave table n, signed (R142, R143). -/
def waveEntry (m : Memory) (n : WaveId) (j : Nat) : Int :=
  (Memory.read m (waveAddress n j + 1) ++ Memory.read m (waveAddress n j)).toInt

end Sys2Proof.Machine
end

