-- ==== Sys2Proof/Machine/State.lean ====
section
/-! DEFINITION. The state of the ZP-440 as plain data: every field the spec's tables name, the queue of
waiting commands, and the value of each at power-on. -/

namespace Sys2Proof.Machine

/-- What the part keeps for one player: breath record (R2), resolver record (R19), note controller (R84,
R107, R51), pool counts (R82, R83), link receiver (R149) and player-area state (R175, R176, R180). -/
structure PlayerState where
  -- breath front end (R2)
  zeroOffset : Nat
  capturePending : Bool
  breath : BreathState
  level : Nat
  -- fingering resolver (R19)
  candidate : KeySet
  settleCount : Nat
  accepted : KeySet
  trill : Trill
  /-- The trill button last seen is down. -/
  trillSeen : Bool
  selected : SetupId
  active : SetupId
  bend : Int
  -- note controller (R84, R107, R51)
  note : Option Note
  tagCounter : BitVec 8
  /-- The latch stack, the bottom entry first. -/
  latch : List LatchEntry
  /-- The latch button last seen is down. -/
  latchSeen : Bool
  learn : Option LearnRecord
  -- voice pool (R82, R83)
  held : Nat
  reserve : Nat
  ceiling : Nat
  -- link receiver (R149)
  enabled : Bool
  configuredRate : Rate
  workingRate : Rate
  link : LinkState
  /-- The characters of the frame in assembly, character 0 first; none when absent. -/
  assembly : List Byte
  /-- No character has ended since the receiver last began to take characters, so one that began before may
  still be on the line (R151, R160; log 27). -/
  restarted : Bool
  /-- A valid frame the last character completed, not yet taken (R153; log 5). -/
  received : Option Frame
  seqRef : Option (BitVec 4)
  silence : Option Nat
  keyCount : Nat
  replies : List Reply
  slot : ReplySlot
  -- desk port and event queue (R175 to R181)
  threshold : Nat
  maskA : Byte
  maskB : Byte
  statusA : Byte
  denied : Bool
  events : List EventRecord
  /-- The event read buffer (R179); that it is empty at power-on is the model's choice (log 14). -/
  window : Option EventRecord
deriving DecidableEq, Repr

/-- The whole part. -/
structure State where
  /-- The commands that wait, first in, first out. -/
  pending : List Instr
  sampleCount : Word
  voices : Vector Voice Config.numVoices
  freeQueue : List VoiceId
  stampCounter : BitVec 16
  players : Vector PlayerState Config.numPlayers
  setups : Vector Setup Config.numSetups
  curves : Vector Curve Config.numCurves
  charts : Vector Chart Config.numCharts
  waves : Memory
  tuning : Int
  masterGain : Nat
  directGains : Vector Nat Config.numPlayers
  clipMain : Bool
  clipDirect : Bool
  /-- The samples last formed: main left, main right, direct P0 to P3 (R147). -/
  samples : Vector Int 6
  /-- The eight slots of the frame on the audio port (R148). -/
  audioFrame : Vector Word 8
  intMode : IntMode
  intPolarity : IntPolarity
  globalMask : Byte
  pulse : Bool
  irqHigh : Bool
  /-- The held low byte, with the address of the field it belongs to (R171). -/
  heldLow : Option (Half × Byte)
  txn : Option Transaction
  /-- The bytes the port has returned in the present or last transaction, oldest first (R169; log 10). -/
  miso : List Byte
deriving DecidableEq, Repr

/-- No meaning raises a fault: the spec names no event that stops the part. -/
inductive Fault where
deriving DecidableEq, Repr

/-- Why the model gives a command no meaning. -/
inductive Refusal where
  /-- Raised by `exec` alone, for a row of the table that has no meaning yet. Safe: the model stops where
  the part goes on. -/
  | notModelled (mnemonic : String)
deriving DecidableEq, Repr

/-- A player's state at power-on (R2, R19, R51, R82 to R84, R107, R149, R175). The spec gives no power-on value to the
event read buffer `window`, only its value after SOFT_RESET (R174), nor to the model's own `received` and `restarted`:
their values here are the model's choice (DESIGN CHOICE, unsafe, log 14). -/
def PlayerState.reset : PlayerState :=
  { zeroOffset := 0, capturePending := false, breath := .quiet, level := 0,
    candidate := 0, settleCount := 0, accepted := 0, trill := .stopped, trillSeen := false,
    selected := 0, active := 0, bend := 0,
    note := none, tagCounter := 0, latch := [], latchSeen := false, learn := none,
    held := 0, reserve := 16, ceiling := 64,
    enabled := true, configuredRate := .r500, workingRate := .r500, link := .down, assembly := [],
    restarted := true, received := none, seqRef := none, silence := none, keyCount := 0, replies := [],
    slot := .idle,
    threshold := 15, maskA := 0, maskB := 0, statusA := 0, denied := false, events := [],
    window := none }

/-- The part right after power-on (R13, R44, R62, R78, R80, R81, R119, R131, R142, R146 to R148, R171,
R172, R182). The queue of commands is empty. -/
def State.reset : State :=
  { pending := [], sampleCount := 0, voices := Vector.replicate _ resetVoice,
    freeQueue := fullFreeQueue, stampCounter := 0, players := Vector.replicate _ PlayerState.reset,
    setups := Vector.replicate _ defaultSetup, curves := Vector.replicate _ linearCurve,
    charts := powerOnCharts, waves := [], tuning := 0, masterGain := 256,
    directGains := Vector.replicate _ 256, clipMain := false, clipDirect := false,
    samples := Vector.replicate _ 0, audioFrame := Vector.replicate _ 0, intMode := .level,
    intPolarity := .activeLow, globalMask := 0, pulse := false, irqHigh := true, heldLow := none,
    txn := none, miso := [] }

end Sys2Proof.Machine
end

