-- ==== Sys2Proof/Machine/Flags.lean ====
section
/-! DEFINITION. The status flags, sticky and live, and the interrupt line they drive (R178, R180 to R182). -/

namespace Sys2Proof.Machine

/-- The sticky flags of status A, bit 0 up (R186). -/
def charErr : Byte := 0x01
def checkErr : Byte := 0x02
def formatErr : Byte := 0x04
def seqGap : Byte := 0x08
def collisionFlag : Byte := 0x10
def linkLost : Byte := 0x20
def evqOverflow : Byte := 0x40
def rpqOverflow : Byte := 0x80

/-- A byte with a single named bit. -/
def flagBit (set : Bool) (bit : Byte) : Byte := if set then bit else 0

/-- EVQ_LEVEL: the queue count is greater than 2 T + 1 (R178). -/
def PlayerState.evqLevel (ps : PlayerState) : Bool := 2 * ps.threshold + 1 < ps.events.length

/-- EVQ_FULL: the queue count is 32 (R178). -/
def PlayerState.evqFull (ps : PlayerState) : Bool := ps.events.length = eventQueueSize

/-- Status B: DENIED, EVQ_LEVEL and EVQ_FULL in bits 0 to 2 (R186). -/
def PlayerState.statusB (ps : PlayerState) : Byte :=
  flagBit ps.denied 1 ||| flagBit ps.evqLevel 2 ||| flagBit ps.evqFull 4

/-- Global status: CLIP_MAIN and CLIP_DIRECT in bits 0 and 1 (R186). -/
def State.globalStatus (s : State) : Byte := flagBit s.clipMain 1 ||| flagBit s.clipDirect 2

/-- A player has an unmasked flag set (R181, R182). -/
def PlayerState.unmasked (ps : PlayerState) : Bool :=
  ps.statusA &&& ps.maskA != 0 || ps.statusB &&& ps.maskB != 0

/-- Some unmasked flag, sticky or live, is set anywhere in the part (R182). -/
def State.unmasked (s : State) : Bool :=
  s.players.toList.any PlayerState.unmasked || s.globalStatus &&& s.globalMask != 0

/-- An unmasked flag of the player went from clear in `b` to set in `a` (R182). -/
def PlayerState.transition (b a : PlayerState) : Bool :=
  a.statusA &&& ~~~b.statusA &&& a.maskA != 0 || a.statusB &&& ~~~b.statusB &&& a.maskB != 0

/-- An unmasked flag went from clear to set between two states (R182). -/
def State.transition (b a : State) : Bool :=
  (List.zipWith PlayerState.transition b.players.toList a.players.toList).any id
    || a.globalStatus &&& ~~~b.globalStatus &&& a.globalMask != 0

/-- The line is active: in LEVEL while an unmasked flag is set, in EDGE during a pulse (R182). -/
def State.lineActive (s : State) : Bool :=
  match s.intMode with
  | .level => s.unmasked
  | .edge => s.pulse

/-- The level the line is driven to: ACTIVE_LOW is low when active, ACTIVE_HIGH high (R182). -/
def State.lineLevel (s : State) : Bool :=
  match s.intPolarity with
  | .activeLow => !s.lineActive
  | .activeHigh => s.lineActive

/-- Whether a pulse is in progress after a command that took `b` to `a`: a transition in EDGE starts one,
and LEVEL has none (R182). -/
def pulseAfter (b a : State) : Bool :=
  match a.intMode with
  | .level => false
  | .edge => a.pulse || State.transition b a

/-- Drive the interrupt line after a command's effect: a transition starts a pulse in EDGE mode and the
pin takes the line's level (R182; log 22). -/
def settleLine (b a : State) : State :=
  { a with
    pulse := pulseAfter b a
    irqHigh := State.lineLevel { a with pulse := pulseAfter b a } }

/-- A command's outcome: its effect, with the interrupt line settled. -/
def answer (b a : State) : Host.Outcome State Fault Refusal := .next (settleLine b a)

end Sys2Proof.Machine
end

