-- ==== Sys2Proof/Machine/Ops.lean ====
section
/-! DEFINITION. The named operations over the part's registers, queues and stores, which every meaning is
written over. -/

namespace Sys2Proof.Machine

/-- The four players, P0 first. -/
def allPlayers : List Player := [0, 1, 2, 3]
/-- The four layers, layer 0 first. -/
def allLayers : List LayerId := [0, 1, 2, 3]
/-- The sixty-four voices, V0 first. -/
def allVoices : List VoiceId := List.finRange Config.numVoices

/-- Apply a function to every element of a vector. -/
def mapVector {α β : Type} {n : Nat} (f : α → β) (v : Vector α n) : Vector β n :=
  ⟨(v.toList.map f).toArray, by simp⟩

/-- A value clamped to a range: it takes the nearer end (spec/00_scope.md, "Arithmetic"). -/
def clampInt (lo hi x : Int) : Int := if x < lo then lo else if hi < x then hi else x

/-- A number clamped to a range. -/
def clampNat (lo hi x : Nat) : Nat := if x < lo then lo else if hi < x then hi else x

def State.player (s : State) (p : Player) : PlayerState := s.players[p]

def State.modPlayer (s : State) (p : Player) (f : PlayerState → PlayerState) : State :=
  { s with players := s.players.set p (f s.players[p]) }

def State.modPlayers (s : State) (f : PlayerState → PlayerState) : State :=
  { s with players := mapVector f s.players }

def State.voice (s : State) (v : VoiceId) : Voice := s.voices[v]

def State.modVoice (s : State) (v : VoiceId) (f : Voice → Voice) : State :=
  { s with voices := s.voices.set v (f s.voices[v]) }

def State.modVoices (s : State) (f : Voice → Voice) : State :=
  { s with voices := mapVector f s.voices }

/-- The state with another free queue. -/
def State.withFree (s : State) (q : List VoiceId) : State := { s with freeQueue := q }

/-- The state with the stamp counter advanced by one (R81). -/
def State.stampUp (s : State) : State := { s with stampCounter := s.stampCounter + 1 }

def State.entry (s : State) (n : ChartSlot) (e : EntryId) : ChartEntry := s.charts[n][e]

def State.modEntry (s : State) (n : ChartSlot) (e : EntryId) (f : ChartEntry → ChartEntry) : State :=
  { s with charts := s.charts.set n (s.charts[n].set e (f s.charts[n][e])) }

def State.setup (s : State) (n : SetupId) : Setup := s.setups[n]

/-- The record of a player's active setup (R23, R77). -/
def State.activeSetup (s : State) (p : Player) : Setup := s.setup (s.player p).active

/-- Set a sticky flag of status A (R180). -/
def raiseFlag (p : Player) (flag : Byte) (s : State) : State :=
  s.modPlayer p fun ps => { ps with statusA := ps.statusA ||| flag }

/-- A player's record once an event record has been queued: it joins the tail, or is refused with
EVQ_OVERFLOW at 32 (R177). -/
def PlayerState.queued (ps : PlayerState) (e : EventRecord) : PlayerState :=
  if ps.events.length < eventQueueSize then { ps with events := ps.events ++ [e] }
  else { ps with statusA := ps.statusA ||| evqOverflow }

/-- A player's record once a reply has been placed: it joins the tail, or is refused with RPQ_OVERFLOW at 8
(R162). -/
def PlayerState.placed (ps : PlayerState) (r : Reply) : PlayerState :=
  if ps.replies.length < replyQueueSize then { ps with replies := ps.replies ++ [r] }
  else { ps with statusA := ps.statusA ||| rpqOverflow }

/-- Queue an event record (R177). -/
def queueEvent (p : Player) (e : EventRecord) (s : State) : State := s.modPlayer p fun ps => ps.queued e

/-- An event record stamped with the sample count at which its event is taken (R131, R176). -/
def State.stamped (s : State) (kind : EventKind) (tag : BitVec 8) (note : Nat) (flags : Byte) (value : Nat) :
    EventRecord :=
  { kind := kind, tag := tag, note := BitVec.ofNat 8 note, flags := flags, value := BitVec.ofNat 16 value,
    time := s.sampleCount }

/-- Queue an event record of the present sample count. -/
def report (p : Player) (kind : EventKind) (tag : BitVec 8) (note : Nat) (flags : Byte) (value : Nat)
    (s : State) : State :=
  queueEvent p (s.stamped kind tag note flags value) s

/-- Place a reply (R162). -/
def placeReply (p : Player) (r : Reply) (s : State) : State := s.modPlayer p fun ps => ps.placed r

/-- The flag byte of a range flag: bit 0 FOLDED, bit 1 CLAMPED (R185). -/
def RangeFlag.byte : RangeFlag → Byte
  | .plain => 0
  | .folded => 1
  | .clamped => 2

/-- The reason codes of NOTE_OFF (R185). -/
def OffReason.code : OffReason → Nat
  | .breath => 1
  | .unmatched => 2
  | .link => 3
  | .panic => 4

/-- The cause codes of LINK_LOST (R185). -/
def LostCause.code : LostCause → Nat
  | .silence => 1
  | .disabled => 2
  | .reset => 3

/-- The result codes of LEARN_RESULT (R184). -/
def LearnResult.code : LearnResult → Nat
  | .ok => 0
  | .okShadowed => 1
  | .busy => 2
  | .refused => 3
  | .timeout => 4
  | .preempted => 5
  | .cancelled => 6

/-- The kind codes of event records (R185). -/
def EventKind.code : EventKind → Nat
  | .noteOn => 1
  | .noteChange => 2
  | .noteOff => 3
  | .voiceDenied => 4
  | .voiceTaken => 5
  | .latchPush => 6
  | .latchDrop => 7
  | .latchClear => 8
  | .learnDone => 9
  | .learnEnded => 10
  | .setupApplied => 11
  | .linkUp => 12
  | .linkLost => 13

/-- The breath state codes of the STATUS reply and the player area (R184, R186). -/
def BreathState.code : BreathState → Nat
  | .quiet => 0
  | .pending _ => 1
  | .breathing => 2
  | .muted => 3

/-- The link state codes of the player area (R186). -/
def LinkState.code : LinkState → Nat
  | .down => 0
  | .up => 1
  | .lost => 2

/-- The rate codes (R150). -/
def Rate.code : Rate → Nat
  | .r250 => 0
  | .r500 => 1
  | .r1000 => 2

/-- The rate a written byte selects (R150). -/
def Rate.ofByte (v : Byte) : Rate := if v = 0 then .r250 else if v = 1 then .r500 else .r1000

end Sys2Proof.Machine
end

