-- ==== Sys2Proof/Machine/Operands.lean ====
section
/-! DEFINITION. The operand forms: the fields of an instrument's frame, the characters of a reply, the
bytes of an event record, and the units and fields of the desk map (R154, R170, R183 to R187). -/

namespace Sys2Proof.Machine

/-- The fields of a SENSE frame (R154). -/
structure SenseFields where
  keys : KeySet
  contact : BitVec 2
  latch : Bool
  trill : Bool
  breath : BitVec 12
  replyOk : Bool
  bite : BitVec 7
  setup : SetupId
deriving DecidableEq, Repr

/-- The fields of a SENSE frame from its characters 1 to 8; the ignored bits take no part (R183). -/
def senseFields (f : FrameBody) : SenseFields :=
  { keys := f.c4.extractLsb' 0 3 ++ f.c3 ++ f.c2 ++ f.c1
    contact := f.c4.extractLsb' 3 2
    latch := f.c4.getLsbD 5
    trill := f.c4.getLsbD 6
    breath := f.c5.extractLsb' 0 6 ++ f.c6.extractLsb' 0 6
    replyOk := f.c6.getLsbD 6
    bite := f.c7
    setup := (f.c8.extractLsb' 0 4).toFin }

/-- The header character of a frame: bit 7, the kind in bits 6 to 4, the sequence number (R183). -/
def headerChar (kind : BitVec 3) (seq : BitVec 4) : Byte := (1 : BitVec 1) ++ kind ++ seq

/-- The kind a header names, if it is known (R153). -/
def kindOf (header : Byte) : Option FrameKind :=
  if header.extractLsb' 4 3 = 0 then some .sense
  else if header.extractLsb' 4 3 = 1 then some .hello
  else if header.extractLsb' 4 3 = 2 then some .learnReq
  else none

/-- The sum of characters modulo 128, the check of a frame (R152, R165). -/
def checkSum (chars : List Byte) : Nat := (chars.map BitVec.toNat).sum % 128

/-- A data character's seven bits. -/
def dataBits (c : Byte) : BitVec 7 := c.extractLsb' 0 7

/-- The body of a frame from its first nine characters (R154). -/
def bodyOf (chars : List Byte) : FrameBody :=
  let c (i : Nat) : BitVec 7 := dataBits (chars.getD i 0)
  { seq := (chars.getD 0 0).extractLsb' 0 4, c1 := c 1, c2 := c 2, c3 := c 3, c4 := c 4, c5 := c 5,
    c6 := c 6, c7 := c 7, c8 := c 8 }

/-- A reply frame: header with kind and echoed sequence number, four data characters, check (R165, R184). -/
def replyChars (kind : BitVec 2) (seq : BitVec 4) (note tuning flags value : Nat) : List Byte :=
  let header : Byte := (1 : BitVec 1) ++ kind ++ (0 : BitVec 1) ++ seq
  let body := [header, BitVec.ofNat 8 note, BitVec.ofNat 8 tuning, BitVec.ofNat 8 flags,
    BitVec.ofNat 8 value]
  body ++ [BitVec.ofNat 8 (checkSum body)]

/-- The six characters of a queued reply (R167, R184). -/
def Reply.chars (seq : BitVec 4) : Reply → List Byte
  | .denied note layer => replyChars 1 seq note layer.val 1 0
  | .taken note layer v => replyChars 1 seq note layer.val 2 v.val
  | .latchDropped note => replyChars 1 seq note 0 3 0
  | .learnResult slot result entry => replyChars 2 seq slot 0 result.code entry

/-- The ten bytes of an event record (R185). -/
def EventRecord.bytes (e : EventRecord) : List Byte :=
  [BitVec.ofNat 8 e.kind.code, e.tag, e.note, e.flags, e.value.extractLsb' 0 8, e.value.extractLsb' 8 8]
  ++ [e.time.extractLsb' 0 8, e.time.extractLsb' 8 8, e.time.extractLsb' 16 8, e.time.extractLsb' 24 8]

/-- A place in the desk map: the unit an address lies in and the offset within it (R170). -/
inductive Place where
  | control (off : Nat)
  | window (p : Player)
  | area (p : Player) (off : Nat)
  | setup (n : SetupId) (off : Nat)
  | curve (n : CurveId) (off : Nat)
  | chart (n : ChartSlot) (e : EntryId) (b : Fin 8)
  | wave (n : WaveId) (off : Nat)
  | unmapped
deriving DecidableEq, Repr

/-- The place of an address: the top-level desk map (spec/11_formats.md) and the units of R170. -/
def placeOf (a : Half) : Place :=
  let n := a.toNat
  if n < 0x40 then .control n
  else if n < 0x80 then
    if n % 16 = 0 then .window (Fin.ofNat _ ((n - 0x40) / 16)) else .unmapped
  else if n < 0x100 then .unmapped
  else if n < 0x200 then .area (Fin.ofNat _ ((n - 0x100) / 64)) (n % 64)
  else if n < 0x400 then .unmapped
  else if n < 0xC00 then .setup (Fin.ofNat _ ((n - 0x400) / 128)) (n % 128)
  else if n < 0xE00 then .curve (Fin.ofNat _ ((n - 0xC00) / 64)) (n % 64)
  else if n < 0x1000 then .unmapped
  else if n < 0x2000 then
    .chart (Fin.ofNat _ ((n - 0x1000) / 512)) (Fin.ofNat _ (n % 512 / 8)) (Fin.ofNat _ (n % 8))
  else if n < 0x4000 then .wave (Fin.ofNat _ ((n - 0x2000) / 512)) (n % 512)
  else .unmapped

/-- The next address within a unit of `size` bytes, aligned to its size: the last byte wraps to the first. -/
def nextWithin (size : Nat) (a : Half) : Half :=
  let n := a.toNat
  BitVec.ofNat 16 (n - n % size + (n % size + 1) % size)

/-- The address after a data byte at `a`: it advances and wraps within its unit (R170, R71, R46, R143). -/
def nextAddress (a : Half) : Half :=
  match placeOf a with
  | .control _ => nextWithin 64 a
  | .area _ _ => nextWithin 64 a
  | .setup _ _ => nextWithin 128 a
  | .curve _ _ => nextWithin 64 a
  | .chart _ _ _ => nextWithin 512 a
  | .wave _ _ => nextWithin 512 a
  | .window _ => a
  | .unmapped => a

/-- The address of a control-area offset, a player-area offset, an event window and a chart entry's byte
(R170, R175, R46). -/
def controlAddress (off : Nat) : Half := BitVec.ofNat 16 off
def areaAddress (p : Player) (off : Nat) : Half := BitVec.ofNat 16 (0x100 + 64 * p.val + off)
def windowAddress (p : Player) : Half := BitVec.ofNat 16 (0x40 + 16 * p.val)
def entryAddress (n : ChartSlot) (e : EntryId) (b : Nat) : Half :=
  BitVec.ofNat 16 (0x1000 + 512 * n.val + 8 * e.val + b)

end Sys2Proof.Machine
end

