-- ==== Sys2Proof/Machine/Pitch.lean ====
section
/-! DEFINITION. Pitch and phase arithmetic (spec/07): the pitch of a voice, its increment, the glide and
the recomputations at frames, grants, pushes and tuning writes. -/

namespace Sys2Proof.Machine

/-- The pitch of a voice in cents over note 0, clamped to 0 to 12,799 (R120). -/
def pitchOf (tuning : Int) (vo : Voice) : Nat :=
  (clampInt 0 12799
    (vo.glideCurrent + 100 * vo.copies.interval + vo.copies.detune + vo.bend + tuning)).toNat

/-- The increment of a pitch (R126). -/
def incrementOf (pc : Nat) : Nat :=
  let s := pc / 100
  let r := pc % 100
  let o := s / 12
  let i := s % 12
  let stepOne := baseConstant * semiTable.getD i 0 / 65536
  let stepTwo := stepOne * centTable.getD r 0 / 65536
  stepTwo * 2 ^ o

/-- Compute a voice's increment afresh from its pitch inputs and the master tuning (R120, R126). -/
def Voice.retune (tuning : Int) (vo : Voice) : Voice :=
  { vo with increment := incrementOf (pitchOf tuning vo) }

/-- One glide step toward the target, not past it; a step of 0 jumps (R121). -/
def glideToward (step current target : Nat) : Nat :=
  if step = 0 then target
  else if current < target then min (current + step) target
  else max (current - step) target

/-- The pitch update of a SOUNDING voice at its owner's frame: glide step, bend, increment (R121). -/
def Voice.frameUpdate (tuning bend : Int) (vo : Voice) : Voice :=
  Voice.retune tuning
    { vo with
      glideCurrent := glideToward vo.copies.glideStep vo.glideCurrent vo.glideTarget
      bend := bend }

/-- The voices of a binding list that are voice items, in layer order (R84). -/
def boundVoices (note : Note) : List VoiceId :=
  note.binding.filterMap fun b => match b.item with
    | .voice v => some v
    | .claim _ => none
    | .denied => none

/-- The voices of a binding list that are open claims, in layer order (R84). -/
def claimedVoices (note : Note) : List VoiceId :=
  note.binding.filterMap fun b => match b.item with
    | .voice _ => none
    | .claim v => some v
    | .denied => none

/-- The SOUNDING voices of a player's current note, in layer order (R84). -/
def State.noteVoices (s : State) (p : Player) : List VoiceId :=
  match (s.player p).note with
  | none => []
  | some note => (boundVoices note).filter fun v => (s.voice v).state = .sounding

/-- The pitch update of every SOUNDING voice of the player's current note (R121). -/
def updatePitch (p : Player) (s : State) : State :=
  (s.noteVoices p).foldl
    (fun t v => t.modVoice v (Voice.frameUpdate s.tuning (s.player p).bend)) s

/-- A signed byte saturated to −100 to +100 (R119). -/
def tuningOf (v : Byte) : Int := clampInt (-100) 100 v.toInt

/-- A write of the master tuning: it saturates, and every voice that is not FREE is recomputed (R119, R125). -/
def writeTuning (v : Byte) (s : State) : State :=
  State.modVoices { s with tuning := tuningOf v } fun vo =>
    if vo.state = .free then vo else vo.retune (tuningOf v)

end Sys2Proof.Machine
end

