-- ==== Sys2Proof/Machine/Breath.lean ====
section
/-! DEFINITION. The breath front end (spec/01): zero capture, net pressure, the breath state machine, the
curve, smoothing and the level hand-off. -/

namespace Sys2Proof.Machine

/-- The effective release threshold (R7). -/
def effectiveRelease (st : Setup) : Nat := if st.release < st.onset then st.release else st.onset - 1

/-- The breath state machine's transition for a net pressure (R8, R9). -/
def breathStep (st : Setup) (n : Nat) (b : BreathState) : BreathState × BreathReport :=
  match b with
  | .quiet => if st.onset ≤ n then (.pending 1, .none) else (.quiet, .none)
  | .pending count =>
    if st.onset ≤ n then
      if 3 ≤ count + 1 then (.breathing, .onset) else (.pending (count + 1), .none)
    else (.quiet, .none)
  | .breathing => if n < effectiveRelease st then (.quiet, .noteOff) else (.breathing, .none)
  | .muted => if n < effectiveRelease st then (.quiet, .none) else (.muted, .none)

/-- The level of a curve at a net pressure, on the straight line of its segment, rounded toward zero (R15). -/
def curveLevel (c : Curve) (n : Nat) : Nat :=
  let seg := n / 256
  let f := n % 256
  let lo : Int := c.toList.getD seg 0
  let hi : Int := c.toList.getD (seg + 1) 0
  (lo + ((hi - lo) * f).tdiv 256).toNat

/-- The smoothing step from `level` toward the curve level: k sixteenths of the distance, rounded toward
zero, and one unit where that is 0 but the two differ (R16). -/
def smoothStep (k : Nat) (level goal : Nat) : Int :=
  let step : Int := (((goal : Int) - level) * k).tdiv 16
  if step = 0 then (if level < goal then 1 else if goal < level then -1 else 0) else step

/-- The breath level after a frame (R16). -/
def smooth (k : Nat) (level goal : Nat) : Nat := ((level : Int) + smoothStep k level goal).toNat

/-- The zero offset a frame is processed with: a pending capture takes the raw reading (R5). -/
def PlayerState.frameZero (ps : PlayerState) (raw : Nat) : Nat :=
  if ps.capturePending then raw else ps.zeroOffset

/-- The net pressure of a frame (R6). -/
def PlayerState.netPressure (ps : PlayerState) (raw : Nat) : Nat := raw - ps.frameZero raw

/-- What the front end reports of a frame (R18). -/
def breathReport (p : Player) (raw : Nat) (s : State) : BreathReport :=
  (breathStep (s.activeSetup p) ((s.player p).netPressure raw) (s.player p).breath).2

/-- The front end's stages on an accepted sense frame: capture, net pressure, state machine, curve,
smoothing (R1). -/
def frontEnd (p : Player) (raw : Nat) (s : State) : State :=
  let st := s.activeSetup p
  s.modPlayer p fun ps =>
    { ps with
      zeroOffset := ps.frameZero raw
      capturePending := false
      breath := (breathStep st (ps.netPressure raw) ps.breath).1
      level := smooth st.smoothing ps.level (curveLevel s.curves[st.curve] (ps.netPressure raw)) }

/-- The amplitude target and morph a SOUNDING voice takes from a breath level (R17). -/
def Voice.takeLevel (level : Nat) (vo : Voice) : Voice :=
  { vo with
    target := level * vo.copies.gain / 2
    morph := if vo.copies.morphEnable then level / 4 else 0 }

/-- The level hand-off to the SOUNDING voices of the player's current note (R17). -/
def handOff (p : Player) (s : State) : State :=
  (s.noteVoices p).foldl (fun t v => t.modVoice v (Voice.takeLevel (s.player p).level)) s

end Sys2Proof.Machine
end

