-- ==== Sys2Proof/Machine/Charts.lean ====
section
/-! DEFINITION. The chart store and the learn operation (spec/03): lookup, learn requests, completion and
endings, restore and the writing of entries. -/

namespace Sys2Proof.Machine

/-- A valid entry matches a key set on the keys of its care set (R34). -/
def ChartEntry.hits (e : ChartEntry) (keys : KeySet) : Bool :=
  e.valid && (keys &&& e.care == e.pattern &&& e.care)

/-- The first valid entry that matches, in index order (R34). -/
def lookupChart (c : Chart) (keys : KeySet) : Option ChartEntry := c.toList.find? (·.hits keys)

/-- An entry below `e` is valid and matches the pattern (R55). -/
def shadowed (c : Chart) (e : EntryId) (pattern : KeySet) : Bool :=
  (c.toList.take e.val).any (·.hits pattern)

/-- The note number a learn report carries for a slot. -/
def reportLearn (p : Player) (kind : EventKind) (result : LearnResult) (slot entry : Nat)
    (s : State) : State :=
  report p kind 0 slot (BitVec.ofNat 8 result.code) entry s

/-- The reservation and the learn record go together (R51). -/
def dropLearn (p : Player) (r : LearnRecord) (s : State) : State :=
  (s.modEntry r.slot r.entry fun e => { e with reservation := none }).modPlayer p fun ps =>
    { ps with learn := none }

/-- A pending learn ends with a reason: reservation and record go, LEARN_ENDED is queued, and the
LEARN_RESULT is placed where `reply` says so (R56 to R59). With none pending nothing happens (R60). -/
def endLearn (p : Player) (result : LearnResult) (reply : Bool) (s : State) : State :=
  match (s.player p).learn with
  | none => s
  | some r =>
    let s := reportLearn p .learnEnded result r.slot.val r.entry.val (dropLearn p r s)
    if reply then placeReply p (.learnResult r.slot.val result r.entry.val) s else s

/-- The result a completion reports (R55). -/
def learnOutcome (c : Chart) (e : EntryId) (pattern : KeySet) : LearnResult :=
  if shadowed c e pattern then .okShadowed else .ok

/-- The completion of a pending learn at a breath onset: the entry is written whole from the accepted key
set and the key mask, and the result is reported (R54 to R56). -/
def completeLearn (p : Player) (s : State) : State :=
  match (s.player p).learn with
  | none => s
  | some r =>
    let pattern := (s.player p).accepted
    let result := learnOutcome s.charts[r.slot] r.entry pattern
    let s := s.modEntry r.slot r.entry fun _ =>
      { valid := true, pattern := pattern, care := (s.activeSetup p).keyMask, offset := r.offset,
        learned := true, reservation := none }
    let s := s.modPlayer p fun ps => { ps with learn := none }
    let s := reportLearn p .learnDone result r.slot.val r.entry.val s
    placeReply p (.learnResult r.slot.val result r.entry.val) s

/-- The learn of a player names an entry. -/
def PlayerState.learns (ps : PlayerState) (n : ChartSlot) (e : EntryId) : Bool :=
  match ps.learn with
  | none => false
  | some r => r.slot = n && r.entry = e

/-- The learn of a player names an entry of a slot. -/
def PlayerState.learnsIn (ps : PlayerState) (n : ChartSlot) : Bool :=
  match ps.learn with
  | none => false
  | some r => r.slot = n

/-- Every pending learn that `hit` selects ends as PREEMPTED (R57). -/
def preempt (hit : PlayerState → Bool) (s : State) : State :=
  allPlayers.foldl (fun t p => if hit (t.player p) then endLearn p .preempted true t else t) s

/-- The offset a biased offset of a LEARN_REQ names: minus 24, saturated to +48 (R52). -/
def learnOffset (biased : BitVec 7) : Int := min ((biased.toNat : Int) - 24) 48

/-- Refuse a learn request with a reply that carries the entry index as sent (R52, R167). -/
def refuseLearn (p : Player) (result : LearnResult) (index : BitVec 7) (s : State) : State :=
  placeReply p (.learnResult 0 result index.toNat) s

/-- Accept a learn request: reserve the entry and make the learn record (R52). -/
def acceptLearn (p : Player) (slot : ChartSlot) (e : EntryId) (biased : BitVec 7) (s : State) : State :=
  (s.modEntry slot e fun en => { en with reservation := some p }).modPlayer p fun ps =>
    { ps with
      learn := some { slot := slot, entry := e, offset := learnOffset biased,
                      deadline := s.sampleCount + learnPeriods } }

/-- A learn request while UP, in the order of R52. -/
def requestLearn (p : Player) (index biased : BitVec 7) (s : State) : State :=
  let slot := (s.activeSetup p).chartSlot
  if (s.player p).learn.isSome then refuseLearn p .refused index s
  else if 64 ≤ index.toNat then refuseLearn p .refused index s
  else
    let e : EntryId := Fin.ofNat _ index.toNat
    match (s.entry slot e).reservation with
    | some q => if q = p then acceptLearn p slot e biased s else refuseLearn p .busy index s
    | none => acceptLearn p slot e biased s

/-- A learn request while LOST ends at once as CANCELLED; no record was made (R53). -/
def requestLearnLost (p : Player) (index : BitVec 7) (s : State) : State :=
  placeReply p (.learnResult 0 .cancelled index.toNat)
    (reportLearn p .learnEnded .cancelled 0 index.toNat s)

/-- The learn of a player has reached its deadline (R59). -/
def learnDue (p : Player) (s : State) : Bool :=
  match (s.player p).learn with
  | none => false
  | some r => r.deadline = s.sampleCount

/-- RESTORE_CHART of a slot: the image is written whole, reservations go, learns are preempted (R50, R57). -/
def restoreChart (n : ChartSlot) (s : State) : State :=
  preempt (·.learnsIn n) { s with charts := s.charts.set n referenceChart }

/-- The offset byte of an entry: signed, saturated to −24 to +48 (R47). -/
def entryOffset (v : Byte) : Int := clampInt (-24) 48 v.toInt

/-- The flags byte of an entry (R49, R187). -/
def ChartEntry.flagsByte (e : ChartEntry) : Byte :=
  let holder : BitVec 2 := match e.reservation with
    | some p => BitVec.ofFin p
    | none => 0
  (0 : BitVec 3) ++ holder ++ BitVec.ofBool e.reservation.isSome ++ BitVec.ofBool e.learned
    ++ BitVec.ofBool e.valid

/-- Byte b of a stored entry (R187). -/
def ChartEntry.byte (e : ChartEntry) (b : Nat) : Byte :=
  match b with
  | 0 => e.pattern.extractLsb' 0 8
  | 1 => e.pattern.extractLsb' 8 8
  | 2 => e.pattern.extractLsb' 16 8
  | 3 => e.care.extractLsb' 0 8
  | 4 => e.care.extractLsb' 8 8
  | 5 => e.care.extractLsb' 16 8
  | 6 => BitVec.ofInt 8 e.offset
  | _ => e.flagsByte

/-- Byte b of the entry a flags write stores: the held byte, or the stored one (R47). -/
def heldOr (hold : Vector (Option Byte) 7) (e : ChartEntry) (b : Fin 7) : Byte := hold[b].getD (e.byte b)

/-- The entry a write of the flags byte stores (R47). -/
def entryWritten (hold : Vector (Option Byte) 7) (flags : Byte) (e : ChartEntry) : ChartEntry :=
  { valid := flags.getLsbD 0
    pattern := heldOr hold e 2 ++ heldOr hold e 1 ++ heldOr hold e 0
    care := heldOr hold e 5 ++ heldOr hold e 4 ++ heldOr hold e 3
    offset := entryOffset (heldOr hold e 6)
    learned := false
    reservation := none }

/-- An empty entry holding buffer (R47). -/
def emptyHold : Vector (Option Byte) 7 := Vector.replicate _ none

/-- The entry holding buffer of the transaction in progress; with none it is empty (R47). -/
def State.holdBuffer (s : State) : Vector (Option Byte) 7 :=
  match s.txn with
  | some t => t.hold
  | none => emptyHold

def State.modTxn (s : State) (f : Transaction → Transaction) : State :=
  { s with txn := s.txn.map f }

/-- A write of byte 0 to 6 of an entry is held (R47). -/
def holdEntryByte (b : Fin 7) (v : Byte) (s : State) : State :=
  s.modTxn fun t => { t with hold := t.hold.set b (some v) }

/-- A write of byte 7 writes the entry whole, empties the buffer and preempts the learn that holds the
entry (R47, R57). -/
def writeEntryFlags (n : ChartSlot) (e : EntryId) (v : Byte) (s : State) : State :=
  let hold := s.holdBuffer
  preempt (·.learns n e)
    ((s.modEntry n e (entryWritten hold v)).modTxn fun t => { t with hold := emptyHold })

end Sys2Proof.Machine
end

