-- ==== Sys2Proof/Machine/Resolver.lean ====
section
/-! DEFINITION. The fingering resolver (spec/02): setup selection, mask, settle, trill, overrides, lookup,
note sum, range fold and bite bend. -/

namespace Sys2Proof.Machine

/-- The active setup becomes the selected one: SETUP_APPLIED is queued, and a pending learn ends as
CANCELLED with its reply (R21, R22, R58; log 12). -/
def applySetup (p : Player) (s : State) : State :=
  let n := (s.player p).selected
  endLearn p .cancelled true
    (report p .setupApplied 0 0 0 n.val (s.modPlayer p fun ps => { ps with active := n }))

/-- The setup select of an accepted sense frame, at the start of its event (R21). -/
def selectSetup (p : Player) (n : SetupId) (s : State) : State :=
  let t := s.modPlayer p fun ps => { ps with selected := n }
  match (s.player p).breath with
  | .quiet | .muted => if n = (s.player p).active then t else applySetup p t
  | .pending _ | .breathing => t

/-- The deferred setup change when the breath state became QUIET from PENDING or BREATHING (R22). -/
def deferredSetup (p : Player) (before : BreathState) (s : State) : State :=
  let ps := s.player p
  match before with
  | .quiet | .muted => s
  | .pending _ | .breathing =>
    if ps.breath = .quiet ∧ ps.selected ≠ ps.active then applySetup p s else s

/-- The settle count of a frame (R25). -/
def settleCountAfter (ps : PlayerState) (masked : KeySet) : Nat :=
  if masked = ps.candidate then min (ps.settleCount + 1) 15 else 0

/-- The settle stage and onset acceptance (R25, R26). -/
def settle (st : Setup) (masked : KeySet) (onset : Bool) (ps : PlayerState) : PlayerState :=
  let count := settleCountAfter ps masked
  { ps with
    candidate := masked
    settleCount := count
    accepted := if onset ∨ st.settleWindow ≤ count then masked else ps.accepted }

/-- A step of the running trill generator (R29). -/
def trillAdvance (st : Setup) : Trill → Trill
  | .stopped => .stopped
  | .on left => if left - 1 = 0 then .off st.trillOff else .on (left - 1)
  | .off left => if left - 1 = 0 then .on st.trillOn else .off (left - 1)

/-- The trill generator on a frame: the button starts it, steps it or stops it (R28, R29). -/
def trillFrame (st : Setup) (down : Bool) (ps : PlayerState) : PlayerState :=
  { ps with
    trill := if down then (if ps.trillSeen then trillAdvance st ps.trill else .on st.trillOn) else .stopped
    trillSeen := down }

/-- The effective key set (R30). -/
def effectiveKeys (st : Setup) (ps : PlayerState) : KeySet :=
  match ps.trill with
  | .on _ => ps.accepted ^^^ st.trillSet
  | .off _ | .stopped => ps.accepted

/-- The override a contact value selects; contact 0 shifts by no octave (R32). -/
def overrideFor (st : Setup) (contact : BitVec 2) : Override :=
  if contact = 1 then st.override1
  else if contact = 2 then st.override2
  else if contact = 3 then st.override3
  else .shift 0

/-- The note sum of a frame, or none where the lookup is unmatched (R33, R34, R37). -/
def noteSum (s : State) (p : Player) (contact : BitVec 2) : Option Int :=
  let st := s.activeSetup p
  match overrideFor st contact with
  | .fixed note => some (note + st.transpose)
  | .shift octaves =>
    (lookupChart s.charts[st.chartSlot] (effectiveKeys st (s.player p))).map fun e =>
      st.baseNote + e.offset + 12 * octaves + st.transpose

/-- Fold a note by whole octaves into a range of at least twelve notes (R38). -/
def foldInto (lo hi n : Int) : Int :=
  if n < lo then n + 12 * ((lo - n + 11) / 12)
  else if hi < n then n - 12 * ((n - hi + 11) / 12)
  else n

/-- The resolved note and range flag of a note sum: folded where the span is 11 or more, else clamped
(R38, R39). -/
def rangeFit (st : Setup) (sum : Int) : Resolution :=
  let lo := min st.rangeLow st.rangeHigh
  let hi := max st.rangeLow st.rangeHigh
  if 11 ≤ hi - lo then
    .matched (foldInto lo hi sum).toNat (if sum < lo ∨ hi < sum then .folded else .plain)
  else
    .matched (clampInt lo hi sum).toNat (if sum < lo ∨ hi < sum then .clamped else .plain)

/-- The resolution of a frame (R42). -/
def resolution (s : State) (p : Player) (contact : BitVec 2) : Resolution :=
  match noteSum s p contact with
  | none => .unmatched
  | some sum => rangeFit (s.activeSetup p) sum

/-- The bite bend, in cents (R40). -/
def biteBend (rest depth bite : Nat) : Int :=
  if rest = 0 ∨ rest ≤ bite then 0 else -(((rest - bite) * depth / rest : Nat) : Int)

/-- The key stages of a frame: mask, settle, onset acceptance, trill (R20, R24 to R30). -/
def keyStages (p : Player) (f : SenseFields) (onset : Bool) (s : State) : State :=
  let st := s.activeSetup p
  s.modPlayer p fun ps => trillFrame st f.trill (settle st (f.keys &&& st.keyMask) onset ps)

/-- The bend stage of a frame (R40). -/
def bendStage (p : Player) (bite : BitVec 7) (s : State) : State :=
  let st := s.activeSetup p
  s.modPlayer p fun ps => { ps with bend := biteBend st.biteRest st.bendDepth bite.toNat }

/-- The resolver's stages after the front end, with the learn completion of an onset frame between the
trill and the lookup (R20, R35, R54). The resolution is read from the state this leaves. -/
def resolverStages (p : Player) (f : SenseFields) (r : BreathReport) (s : State) : State :=
  let s := keyStages p f (r = .onset) s
  let s := if r = .onset then completeLearn p s else s
  bendStage p f.bite s

end Sys2Proof.Machine
end

