-- ==== Sys2Proof/Machine/Pool.lean ====
section
/-! DEFINITION. The voice pool (spec/05): ages, grants, steal tiers, steals, denials, the ends of fades and
releases, and what each leaves in the held counts. -/

namespace Sys2Proof.Machine

/-- The age of a voice, modulo 65,536 (R81). -/
def State.age (s : State) (v : VoiceId) : Nat := (s.stampCounter - (s.voice v).stamp).toNat

/-- `v` is older than `w`: greater age, and the lower number among equal ages (R81). -/
def State.older (s : State) (v w : VoiceId) : Bool :=
  s.age w < s.age v || (s.age v = s.age w && v.val < w.val)

/-- `v` goes before `w` in T1 and among a player's own releasing voices: lower amplitude, then older (R90, R92). -/
def State.quieter (s : State) (v w : VoiceId) : Bool :=
  (s.voice v).amplitude < (s.voice w).amplitude
    || ((s.voice v).amplitude = (s.voice w).amplitude && s.older v w)

/-- The element that goes before all others. -/
def pickBy (before : VoiceId → VoiceId → Bool) : List VoiceId → Option VoiceId
  | [] => none
  | v :: vs =>
    match pickBy before vs with
    | none => some v
    | some w => if before v w then some v else some w

/-- The owner of a voice, absent while FREE (R78). -/
def Voice.owner (vo : Voice) : Option Player := vo.use.map VoiceUse.owner

/-- The voices of a state that belong to a player. -/
def State.owned (s : State) (p : Player) (st : VoiceState) : List VoiceId :=
  allVoices.filter fun v => (s.voice v).state = st && (s.voice v).owner = some p

/-- p's LATCHED voices in an entry (R90, R92). -/
def State.latchedIn (s : State) (p : Player) (e : LatchEntry) : List VoiceId :=
  e.voices.filter fun v => (s.voice v).state = .latched && (s.voice v).owner = some p

/-- T1: RELEASING voices of any player, lowest amplitude first, then the oldest (R92). -/
def tierOne (s : State) : Option VoiceId :=
  pickBy s.quieter (allVoices.filter fun v => (s.voice v).state = .releasing)

/-- T2: p's LATCHED voices, the bottom entry first, the oldest within an entry (R92). -/
def tierTwo (s : State) (p : Player) : Option VoiceId :=
  (s.player p).latch.findSome? fun e => pickBy s.older (s.latchedIn p e)

/-- The excess of a player over its effective reserve (R83, R93). -/
def PlayerState.excess (ps : PlayerState) : Nat := ps.held - min ps.reserve ps.ceiling

/-- Insert a player into an order of excess, largest first; a player placed later wins a tie, so inserting
from the highest number down puts the lower number first among equals (R93). -/
def insertByExcess (s : State) (q : Player) : List Player → List Player
  | [] => [q]
  | r :: rs =>
    if (s.player r).excess ≤ (s.player q).excess then q :: r :: rs else r :: insertByExcess s q rs

/-- The players T3 considers for p, in its order (R93). -/
def tierThreeOrder (s : State) (p : Player) : List Player :=
  (allPlayers.filter fun q => q ≠ p && 0 < (s.player q).excess).foldr (insertByExcess s) []

/-- A player's candidate in T3: its LATCHED voices, the oldest first, then its SOUNDING voices (R93). -/
def robbed (s : State) (q : Player) : Option VoiceId :=
  match pickBy s.older (s.owned q .latched) with
  | some v => some v
  | none => pickBy s.older (s.owned q .sounding)

/-- T3 (R93). -/
def tierThree (s : State) (p : Player) : Option VoiceId :=
  (tierThreeOrder s p).findSome? (robbed s)

/-- The voice a player at its ceiling takes: its own RELEASING voices, then its LATCHED ones (R90). -/
def ownVictim (s : State) (p : Player) : Option VoiceId :=
  match pickBy s.quieter (s.owned p .releasing) with
  | some v => some v
  | none => tierTwo s p

/-- The three steal tiers in order (R92, R93). -/
def tierVictim (s : State) (p : Player) : Option VoiceId :=
  match tierOne s with
  | some v => some v
  | none =>
    match tierTwo s p with
    | some v => some v
    | none => tierThree s p

/-- A voice granted or handed over to a note: the stamp, the copies, the note's cents, the player's bend,
phase and amplitude 0, and the increment (R91, R99, R123). -/
def soundFor (s : State) (p : Player) (note : Note) (tag : BitVec 8) (l : LayerId) (vo : Voice) : Voice :=
  Voice.retune s.tuning
    { vo with
      state := .sounding
      use := some { owner := p, bus := p, tag := tag, layer := l }
      claim := none
      stamp := s.stampCounter + 1
      copies := copiesOf (s.setup note.setup) l
      glideCurrent := 100 * note.number
      glideTarget := 100 * note.number
      bend := (s.player p).bend
      phase := 0
      amplitude := 0
      target := 0
      morph := 0
      endReported := false }

/-- Held(p) rises by one (R82). -/
def raiseHeld (p : Player) (s : State) : State :=
  s.modPlayer p fun ps => { ps with held := ps.held + 1 }

/-- Held(p) falls by one (R82). -/
def lowerHeld (p : Player) (s : State) : State :=
  s.modPlayer p fun ps => { ps with held := ps.held - 1 }

/-- Grant the head of the free queue to a layer of p's note (R91). -/
def grantVoice (v : VoiceId) (rest : List VoiceId) (p : Player) (note : Note) (l : LayerId) (s : State) : State :=
  raiseHeld p (((s.modVoice v (soundFor s p note note.tag l)).withFree rest).stampUp)

/-- A binding item whose voice has been stolen becomes "denied" (R97). -/
def Binding.denyVoice (v : VoiceId) (b : Binding) : Binding :=
  if b.item = .voice v then { b with item := .denied } else b

/-- A latch stack without a stolen voice; an entry left with no voice is removed (R113). -/
def shrinkStack (v : VoiceId) : List LatchEntry → List LatchEntry
  | [] => []
  | e :: es =>
    if v ∈ e.voices then
      (if e.voices.erase v = [] then es else { e with voices := e.voices.erase v } :: es)
    else e :: shrinkStack v es

/-- The entry that losing `v` empties (R113). -/
def emptiedEntry (v : VoiceId) : List LatchEntry → Option LatchEntry
  | [] => none
  | e :: es =>
    if v ∈ e.voices then (if e.voices.erase v = [] then some e else none) else emptiedEntry v es

/-- What a player's record keeps of a voice that is taken from it: a SOUNDING victim's binding item becomes
"denied", a LATCHED one leaves its latch entry (R96, R97, R113). -/
def PlayerState.detached (ps : PlayerState) (v : VoiceId) : VoiceState → PlayerState
  | .sounding =>
    { ps with note := ps.note.map fun n => { n with binding := n.binding.map (Binding.denyVoice v) } }
  | .latched => { ps with latch := shrinkStack v ps.latch }
  | .free | .releasing | .fading => ps

/-- The entry that a steal of a LATCHED voice empties (R113). -/
def droppedEntry (v : VoiceId) (vo : Voice) (ps : PlayerState) : Option LatchEntry :=
  if vo.state = .latched then emptiedEntry v ps.latch else none

/-- The former state in the flags of VOICE_TAKEN (R185). -/
def takenCode : VoiceState → Nat
  | .sounding => 1
  | .releasing => 2
  | .latched => 3
  | .free | .fading => 0

/-- The flags of VOICE_TAKEN: layer in bits 3 to 2, former state in bits 5 to 4 (R185). -/
def takenFlags (l : LayerId) (former : VoiceState) : Byte :=
  BitVec.ofNat 8 (4 * l.val + 16 * takenCode former)

/-- The note a stolen voice last served: its glide target in whole notes (R167, R185). -/
def lastNote (vo : Voice) : Nat := vo.glideTarget / 100

/-- The former owner is told of a steal: VOICE_TAKEN and WARN TAKEN (R97). -/
def tellTaken (v : VoiceId) (vo : Voice) (u : VoiceUse) (s : State) : State :=
  placeReply u.owner (.taken (lastNote vo) u.layer v)
    (report u.owner .voiceTaken u.tag (lastNote vo) (takenFlags u.layer vo.state) v.val s)

/-- Where a steal empties a latch entry, LATCH_DROP and WARN LATCH_DROPPED follow (R113). -/
def tellDropped (q : Player) (dropped : Option LatchEntry) (s : State) : State :=
  match dropped with
  | none => s
  | some e =>
    placeReply q (.latchDropped e.number) (report q .latchDrop e.tag e.number e.flag.byte 2 s)

/-- A stolen voice: FADING for p with an open claim; bus, tag, layer, stamp, copies, pitch, phase and morph
are kept (R96). -/
def Voice.stolen (p : Player) (tag : BitVec 8) (l : LayerId) (vo : Voice) : Voice :=
  { vo with
    state := .fading
    use := vo.use.map fun u => { u with owner := p }
    target := 0
    claim := some { player := p, tag := tag, layer := l }
    endReported := false }

/-- A voice changes hands: the victim leaves what held it, both held counts move, and it fades for p with an
open claim (R96). -/
def seizeVoice (v : VoiceId) (u : VoiceUse) (p : Player) (tag : BitVec 8) (l : LayerId) (s : State) : State :=
  (raiseHeld p (lowerHeld u.owner
    (s.modPlayer u.owner fun ps => ps.detached v (s.voice v).state))).modVoice v (Voice.stolen p tag l)

/-- Steal a voice for a layer of p's note (R96, R97). A voice with no owner cannot be a victim (log 18). -/
def stealVoice (v : VoiceId) (p : Player) (tag : BitVec 8) (l : LayerId) (s : State) : State :=
  match (s.voice v).use with
  | none => s
  | some u =>
    tellDropped u.owner (droppedEntry v (s.voice v) (s.player u.owner))
      (tellTaken v (s.voice v) u (seizeVoice v u p tag l s))

/-- A layer request that finds no voice: the DENIED flag and WARN DENIED (R95). The VOICE_DENIED record
follows the NOTE_ON (R87). -/
def denyLayer (p : Player) (number : Nat) (l : LayerId) (s : State) : State :=
  placeReply p (.denied number l) (s.modPlayer p fun ps => { ps with denied := true })

/-- How a layer request is answered. -/
inductive Answer where
  | grant (v : VoiceId) (rest : List VoiceId)
  | steal (v : VoiceId)
  | deny
deriving DecidableEq, Repr

/-- A steal of what a search found, or a denial. -/
def Answer.ofVictim : Option VoiceId → Answer
  | some v => .steal v
  | none => .deny

/-- The pool's choice for a layer request of p: the ceiling first, then the free queue, then the tiers
(R90 to R93). -/
def poolChoice (s : State) (p : Player) : Answer :=
  if (s.player p).ceiling ≤ (s.player p).held then .ofVictim (ownVictim s p)
  else
    match s.freeQueue with
    | v :: rest => .grant v rest
    | [] => .ofVictim (tierVictim s p)

/-- The binding item an answer gives (R86). -/
def Answer.item : Answer → BindItem
  | .grant v _ => .voice v
  | .steal v => .claim v
  | .deny => .denied

/-- The pool's effect of an answer. -/
def Answer.apply (p : Player) (note : Note) (l : LayerId) (s : State) : Answer → State
  | .grant v rest => grantVoice v rest p note l s
  | .steal v => stealVoice v p note.tag l s
  | .deny => denyLayer p note.number l s

/-- Append a binding item to p's current note (R86). -/
def bind (p : Player) (b : Binding) (s : State) : State :=
  s.modPlayer p fun ps => { ps with note := ps.note.map fun n => { n with binding := n.binding ++ [b] } }

/-- One layer request of an onset, answered whole (R86, R90 to R95). -/
def layerRequest (p : Player) (note : Note) (l : LayerId) (s : State) : State :=
  let a := poolChoice s p
  bind p { layer := l, item := a.item } (a.apply p note l s)

/-- A voice becomes FREE and joins the tail of the free queue; its owner's held count falls (R100, R101). -/
def freeVoice (v : VoiceId) (s : State) : State :=
  let t := (s.modVoice v fun vo =>
      { vo with state := .free, use := none, claim := none, endReported := false }).withFree
    (s.freeQueue ++ [v])
  match (s.voice v).use with
  | none => t
  | some u => lowerHeld u.owner t

/-- A claim item becomes a voice item at its hand-over (R99). -/
def Binding.handOver (v : VoiceId) (b : Binding) : Binding :=
  if b.item = .claim v then { b with item := .voice v } else b

/-- Hand a faded voice over to its claimant's note (R99). -/
def handOver (v : VoiceId) (c : Claim) (note : Note) (s : State) : State :=
  (s.modVoice v (soundFor s c.player note c.tag c.layer)).stampUp.modPlayer c.player fun ps =>
    { ps with note := ps.note.map fun n => { n with binding := n.binding.map (Binding.handOver v) } }

/-- The pool takes a fade end: a hand-over where the voice carries an open claim, else FREE (R99, R100).
A claim whose player has no note cannot arise (R98); the voice is then freed (log 18). -/
def takeFadeEnd (v : VoiceId) (s : State) : State :=
  match (s.voice v).claim with
  | none => freeVoice v s
  | some c =>
    match (s.player c.player).note with
    | none => freeVoice v s
    | some note => handOver v c note s

/-- A voice falls silent at its release step (R89, R109). -/
def Voice.released (vo : Voice) : Voice :=
  { vo with state := .releasing, target := 0, endReported := false }

/-- Release a voice that stands in the state its holder keeps it in (R89, R109). -/
def releaseVoice (from_ : VoiceState) (v : VoiceId) (s : State) : State :=
  s.modVoice v fun vo => if vo.state = from_ then vo.released else vo

/-- Clear an open claim; the voice stays FADING (R89, R98). -/
def clearClaim (v : VoiceId) (s : State) : State := s.modVoice v fun vo => { vo with claim := none }

/-- What PANIC makes of a voice (R104). A fade end already reported stands (log 2). -/
def Voice.panicked (vo : Voice) : Voice :=
  if vo.state = .free then vo
  else
    { vo with
      state := .fading
      target := 0
      claim := none
      endReported := vo.endReported && vo.state = .fading }

end Sys2Proof.Machine
end

