-- ==== Sys2Proof/Machine/Notes.lean ====
section
/-! DEFINITION. Note decisions (spec/05): onset, change and off, and the decision of a frame. -/

namespace Sys2Proof.Machine

/-- The layers a setup enables, in layer order (R73). -/
def enabledLayers (st : Setup) : List LayerId := allLayers.filter fun l => st.layers[l].enable

/-- The binding list of a player's current note. -/
def State.binding (s : State) (p : Player) : List Binding :=
  match (s.player p).note with
  | none => []
  | some n => n.binding

/-- A binding item that counts as a granted layer: a voice or an open claim (R87). -/
def Binding.granted (b : Binding) : Bool := b.item ≠ .denied

/-- The note instance an onset creates (R86). -/
def newNote (s : State) (p : Player) (number : Nat) (flag : RangeFlag) : Note :=
  { tag := (s.player p).tagCounter + 1, number := number, flag := flag, setup := (s.player p).active,
    binding := [] }

/-- The note instance becomes current and the tag counter advances (R84, R86). -/
def beginNote (p : Player) (note : Note) (s : State) : State :=
  s.modPlayer p fun ps => { ps with tagCounter := note.tag, note := some note }

/-- The records of an onset: NOTE_ON, then a VOICE_DENIED for each denied item in layer order (R87). -/
def reportOnset (p : Player) (note : Note) (s : State) : State :=
  let items := s.binding p
  (items.filter fun b => !b.granted).foldl
    (fun t b => report p .voiceDenied note.tag note.number 0 b.layer.val t)
    (report p .noteOn note.tag note.number note.flag.byte (items.filter Binding.granted).length s)

/-- An onset decision: a note instance, one layer request for each enabled layer, and the records
(R86, R87). -/
def onsetDecision (p : Player) (number : Nat) (flag : RangeFlag) (s : State) : State :=
  let note := newNote s p number flag
  reportOnset p note
    ((enabledLayers (s.activeSetup p)).foldl (fun t l => layerRequest p note l t) (beginNote p note s))

/-- A change decision: the note moves to its new number and its SOUNDING voices take new glide targets
(R88, R122). -/
def changeDecision (p : Player) (number : Nat) (flag : RangeFlag) (s : State) : State :=
  match (s.player p).note with
  | none => s
  | some note =>
    let t := (s.noteVoices p).foldl
      (fun t v => t.modVoice v fun vo => { vo with glideTarget := 100 * number }) s
    report p .noteChange note.tag number flag.byte 0
      (t.modPlayer p fun ps => { ps with note := some { note with number := number, flag := flag } })

/-- An off decision: SOUNDING voices are released, open claims cleared, the note ends and NOTE_OFF is
queued (R89). With no current note there is none (R85). -/
def offDecision (p : Player) (reason : OffReason) (s : State) : State :=
  match (s.player p).note with
  | none => s
  | some note =>
    let s := (boundVoices note).foldl (fun t v => releaseVoice .sounding v t) s
    let s := (claimedVoices note).foldl (fun t v => clearClaim v t) s
    report p .noteOff note.tag note.number 0 reason.code
      (s.modPlayer p fun ps => { ps with note := none })

/-- The note decisions (R85). -/
inductive Decision where
  | none
  | onset (number : Nat) (flag : RangeFlag)
  | change (number : Nat) (flag : RangeFlag)
  | off (reason : OffReason)
deriving DecidableEq, Repr

/-- The decision table of R85, from the transition report, the breath state after the frame, the
resolution, the policy and the current note. Rows the table leaves out cannot arise and decide nothing
(log 18). -/
def decisionFor (r : BreathReport) (b : BreathState) (res : Resolution) (policy : Policy)
    (note : Option Note) : Decision :=
  match r, res, note with
  | .onset, .matched n f, .none => .onset n f
  | .onset, _, _ => .none
  | .noteOff, _, .some _ => .off .breath
  | .noteOff, _, .none => .none
  | .none, .matched n f, .some cur => if b = .breathing ∧ n ≠ cur.number then .change n f else .none
  | .none, .matched n f, .none => if b = .breathing ∧ policy = .silent then .onset n f else .none
  | .none, .unmatched, .some _ => if b = .breathing ∧ policy = .silent then .off .unmatched else .none
  | .none, .unmatched, .none => .none

/-- Take a note decision. -/
def Decision.take (p : Player) (s : State) : Decision → State
  | .none => s
  | .onset n f => onsetDecision p n f s
  | .change n f => changeDecision p n f s
  | .off reason => offDecision p reason s

/-- The note controller's decision for an accepted sense frame (R85). -/
def decide (p : Player) (r : BreathReport) (res : Resolution) (s : State) : State :=
  (decisionFor r (s.player p).breath res (s.activeSetup p).policy (s.player p).note).take p s

end Sys2Proof.Machine
end

