-- ==== Sys2Proof/Machine/Latch.lean ====
section
/-! DEFINITION. Latched notes (spec/06): the latch button, push, drop, clear and the emptying of a stack
at link events. -/

namespace Sys2Proof.Machine

/-- The voices of a latch entry are released (R109, R112, R114). -/
def releaseEntry (e : LatchEntry) (s : State) : State :=
  e.voices.foldl (fun t v => releaseVoice .latched v t) s

/-- Room for a push: with four entries the bottom one is dropped and LATCH_DROP FULL is queued (R109). -/
def makeRoom (p : Player) (s : State) : State :=
  match (s.player p).latch with
  | [] => s
  | e :: es =>
    if (e :: es).length < latchStackSize then s
    else
      report p .latchDrop e.tag e.number e.flag.byte 1
        ((releaseEntry e s).modPlayer p fun ps => { ps with latch := es })

/-- A voice frozen into a latch entry (R110). -/
def Voice.frozen (tuning : Int) (glide : Nat) (bend : Int) (vo : Voice) : Voice :=
  Voice.retune tuning
    { vo with
      state := .latched
      target := vo.amplitude
      glideCurrent := glide
      glideTarget := glide
      bend := bend
      endReported := false }

/-- The entry a push forms: the frozen glide note is the glide current of the first, lowest-layer voice
(R110). -/
def latchEntryOf (s : State) (p : Player) (note : Note) (voices : List VoiceId) : LatchEntry :=
  { tag := note.tag, number := note.number, flag := note.flag,
    glide := match voices with
      | [] => 0
      | v :: _ => (s.voice v).glideCurrent
    bend := (s.player p).bend, voices := voices }

/-- The push latches the note's SOUNDING voices, clears its open claims, discards the note and queues
LATCH_PUSH (R110). -/
def latchNote (p : Player) (note : Note) (s : State) : State :=
  let voices := s.noteVoices p
  let e := latchEntryOf s p note voices
  let t := voices.foldl (fun t v => t.modVoice v (Voice.frozen s.tuning e.glide e.bend)) s
  let t := t.modPlayer p fun ps => { ps with latch := ps.latch ++ [e], note := none }
  let t := (claimedVoices note).foldl (fun t v => clearClaim v t) t
  report p .latchPush note.tag note.number note.flag.byte voices.length t

/-- A push: room, the latched entry, and a fresh onset at the latched note's number (R109 to R111). -/
def push (p : Player) (note : Note) (s : State) : State :=
  onsetDecision p note.number note.flag (latchNote p note (makeRoom p s))

/-- The stack is emptied, each entry's voices released from the bottom up, and LATCH_CLEAR queued with a
reason code where an entry was removed (R112, R114). -/
def clearStack (p : Player) (reason : Nat) (s : State) : State :=
  match (s.player p).latch with
  | [] => s
  | e :: es =>
    let t := (e :: es).foldl (fun t e => releaseEntry e t) s
    report p .latchClear 0 (e :: es).length 0 reason (t.modPlayer p fun ps => { ps with latch := [] })

/-- What a press does, by the breath state and the current note after the decision (R108). -/
def press (p : Player) (s : State) : State :=
  match (s.player p).breath, (s.player p).note with
  | .breathing, some note => if s.noteVoices p = [] then s else push p note s
  | .breathing, none => s
  | .quiet, none => clearStack p 1 s
  | .pending _, none => clearStack p 1 s
  | .muted, none => clearStack p 1 s
  | _, some _ => s

/-- The latch button of an accepted sense frame: down after up is a press (R108). -/
def latchButton (p : Player) (down : Bool) (s : State) : State :=
  let t := s.modPlayer p fun ps => { ps with latchSeen := down }
  if down && !(s.player p).latchSeen then press p t else t

end Sys2Proof.Machine
end

