-- ==== Sys2Proof/Machine/Link.lean ====
section
/-! DEFINITION. The player links (spec/09): characters, frame assembly, link states, the accepted sense
frame event, the reply queue and the reply slot. -/

namespace Sys2Proof.Machine

/-! ### Characters and frames (R151 to R153) -/

/-- The part is sending a reply (R149). -/
def ReplySlot.isSending : ReplySlot → Bool
  | .sending _ => true
  | .idle | .opened _ => false

/-- A character is a header: its most significant bit is set (R152). -/
def isHeader (c : Byte) : Bool := c.getLsbD 7

/-- A complete frame is checked; a valid one is handed on (R153; log 5). -/
def completeFrame (p : Player) (chars : List Byte) (s : State) : State :=
  if checkSum (chars.take 9) ≠ (chars.getD 9 0).toNat then raiseFlag p checkErr s
  else
    match kindOf (chars.getD 0 0) with
    | none => raiseFlag p formatErr s
    | some k => s.modPlayer p fun ps => { ps with received := some { kind := k, body := bodyOf chars } }

/-- Set the frame in assembly. -/
def setAssembly (p : Player) (chars : List Byte) (s : State) : State :=
  s.modPlayer p fun ps => { ps with assembly := chars }

/-- Frame assembly takes a good character (R152). -/
def assemble (p : Player) (c : Byte) (s : State) : State :=
  let a := (s.player p).assembly
  if isHeader c then
    if a = [] then setAssembly p [c] s else raiseFlag p formatErr (setAssembly p [c] s)
  else if a = [] then raiseFlag p formatErr s
  else if a.length + 1 = 10 then completeFrame p (a ++ [c]) (setAssembly p [] s)
  else setAssembly p (a ++ [c]) s

/-- A character has ended: whatever ends next began after the receiver did (R151; log 27). -/
def endReception (p : Player) (s : State) : State := s.modPlayer p fun ps => { ps with restarted := false }

/-- A character ends its stop bit: taken while the link is enabled and the part is not sending (R151; log 17).
One that was in reception when the receiver began anew is discarded and sets no flag (R151, R160; log 27). -/
def takeCharacter (p : Player) (c : Byte) (rx : Reception) (s : State) : State :=
  if !(s.player p).enabled || (s.player p).slot.isSending then s
  else if rx.early && (s.player p).restarted then endReception p s
  else if rx.stopOk then assemble p c (endReception p s)
  else raiseFlag p charErr (setAssembly p [] (endReception p s))

/-- A valid frame can be taken: the receiver takes characters, and the frame is the one it handed on, if it
handed one on (R151, R153; log 5). -/
def frameStands (s : State) (p : Player) (fr : Frame) : Bool :=
  (s.player p).enabled && ((s.player p).received = none || (s.player p).received = some fr)

/-- The frame handed on is taken. -/
def clearReceived (p : Player) (s : State) : State :=
  s.modPlayer p fun ps => { ps with received := none }

/-! ### Link states (R155 to R161) -/

/-- The sequence test of a valid frame taken while UP (R156). -/
def checkSequence (p : Player) (seq : BitVec 4) (s : State) : State :=
  let t := s.modPlayer p fun ps => { ps with seqRef := some seq }
  match (s.player p).seqRef with
  | none => t
  | some r => if seq = r + 1 then t else raiseFlag p seqGap t

/-- The link becomes UP at a frame; `cause` is 1 for HELLO, 2 for RECOVERED (R157, R185). -/
def bringUp (p : Player) (cause : Nat) (seq : BitVec 4) (s : State) : State :=
  report p .linkUp 0 (s.player p).keyCount 0 cause
    (s.modPlayer p fun ps => { ps with link := .up, silence := some 0, seqRef := some seq })

/-- The receiver and the trill generator as a link leaves UP (R149, R156, R158, R19). -/
def PlayerState.unlinked (after : LinkState) (ps : PlayerState) : PlayerState :=
  { ps with link := after, silence := none, seqRef := none, trill := .stopped, trillSeen := false }

/-- What every link that leaves UP does before a waiting setup is applied, in the order of R158 steps 2 and 4 to
6. The LEARN_RESULT of a cancelled learn is placed only when the link is disabled (R58). -/
def leaving (p : Player) (cause : LostCause) (after : LinkState) (s : State) : State :=
  let s := report p .linkLost 0 0 0 cause.code (s.modPlayer p (PlayerState.unlinked after))
  let s := offDecision p .link (s.modPlayer p fun ps => { ps with breath := .quiet })
  let s := (clearStack p 2 s).modPlayer p fun ps => { ps with latchSeen := false }
  endLearn p .cancelled (cause = .disabled) s

/-- The link leaves UP: what every cause has in common, in the order of R158 steps 2 and 4 to 7. -/
def leaveUp (p : Player) (cause : LostCause) (after : LinkState) (s : State) : State :=
  deferredSetup p (s.player p).breath (leaving p cause after s)

/-- The silence timeout of an UP link whose silence count has reached 2,400 (R158). -/
def loseLink (p : Player) (s : State) : State :=
  leaveUp p .silence .lost
    ((raiseFlag p linkLost s).modPlayer p fun ps => { ps with replies := [] })

/-- The silence timeout is due (R158; log 3). -/
def silenceDue (p : Player) (s : State) : Bool :=
  (s.player p).link = .up && (s.player p).silence = some silenceLimit

/-- The desk disables an enabled link (R160). -/
def disableLink (p : Player) (s : State) : State :=
  let t := s.modPlayer p fun ps =>
    { ps with enabled := false, link := .down, assembly := [], received := none, slot := .idle }
  if (s.player p).link = .up then leaveUp p .disabled .down t else t

/-- The desk enables a disabled link: the receiver begins with the next start bit, and the link stays DOWN
(R160). -/
def enableLink (p : Player) (s : State) : State :=
  s.modPlayer p fun ps => { ps with enabled := true, restarted := true }

/-- A write of the link enable; one that leaves it as it was has no effect (R160). -/
def writeLinkEnable (p : Player) (v : Byte) (s : State) : State :=
  if v.getLsbD 0 = (s.player p).enabled then s
  else if v.getLsbD 0 then enableLink p s
  else disableLink p s

/-- What a link reset does to the receiver itself (R149, R161). -/
def PlayerState.resetReceiver (ps : PlayerState) : PlayerState :=
  { ps with
    slot := .idle, workingRate := ps.configuredRate, assembly := [], restarted := true,
    received := none, seqRef := none, silence := none, keyCount := 0, replies := [], link := .down }

/-- The link-reset values of the resolver record, the breath front end and the latch button (R19, R4, R107). -/
def PlayerState.resetPlaying (ps : PlayerState) : PlayerState :=
  { ps with
    candidate := 0, settleCount := 0, accepted := 0, trill := .stopped, trillSeen := false, bend := 0,
    capturePending := false, latchSeen := false }

/-- A LINK_RESET request for a player (R161). -/
def resetLink (p : Player) (s : State) : State :=
  let t := s.modPlayer p PlayerState.resetReceiver
  let t := if (s.player p).link = .up then leaveUp p .reset .down t else t
  t.modPlayer p PlayerState.resetPlaying

/-! ### The accepted sense frame (R155, R1, R20) -/

/-- The reply slot opens after the event of a frame with REPLY_OK (R163). -/
def openSlot (p : Player) (seq : BitVec 4) (replyOk : Bool) (s : State) : State :=
  if replyOk then s.modPlayer p fun ps => { ps with slot := .opened seq } else s

/-- The event of an accepted sense frame: setup select, breath front end, resolver, note decision, pitch
update, latch button, level hand-off, deferred setup change and reply slot, in that order (R1, R17, R20 to
R22, R85, R108, R121, R155, R163). -/
def acceptSense (p : Player) (seq : BitVec 4) (f : SenseFields) (s : State) : State :=
  let s := s.modPlayer p fun ps => { ps with silence := some 0 }
  let s := selectSetup p f.setup s
  let before := (s.player p).breath
  let r := breathReport p f.breath.toNat s
  let s := frontEnd p f.breath.toNat s
  let s := resolverStages p f r s
  let s := decide p r (resolution s p f.contact) s
  let s := updatePitch p s
  let s := latchButton p f.latch s
  let s := handOff p s
  let s := deferredSetup p before s
  openSlot p seq f.replyOk s

/-- A valid SENSE frame by the link state it finds (R155). -/
def takeSense (p : Player) (f : FrameBody) (s : State) : State :=
  match (s.player p).link with
  | .down => s
  | .up => acceptSense p f.seq (senseFields f) (checkSequence p f.seq s)
  | .lost => acceptSense p f.seq (senseFields f) (bringUp p 2 f.seq s)

/-- The declared key count of a HELLO, saturated to 24 (R155). -/
def takeKeyCount (p : Player) (c : BitVec 7) (s : State) : State :=
  s.modPlayer p fun ps => { ps with keyCount := min c.toNat 24 }

/-- A valid HELLO frame by the link state it finds (R155, R157). -/
def takeHello (p : Player) (f : FrameBody) (s : State) : State :=
  match (s.player p).link with
  | .up => takeKeyCount p f.c1 (checkSequence p f.seq s)
  | .down | .lost => bringUp p 1 f.seq (takeKeyCount p f.c1 s)

/-- A valid LEARN_REQ frame by the link state it finds (R52, R53, R155). -/
def takeLearnReq (p : Player) (f : FrameBody) (s : State) : State :=
  match (s.player p).link with
  | .down => s
  | .up => requestLearn p f.c1 f.c2 (checkSequence p f.seq s)
  | .lost => requestLearnLost p f.c1 s

/-- Take a valid frame where it stands (R153; log 5). -/
def takeFrame (p : Player) (fr : Frame) (take : State → State) (s : State) : State :=
  if frameStands s p fr then take (clearReceived p s) else s

/-! ### Replies (R163 to R167) -/

/-- The tuning indicator's code for an offset sum: 0 CENTRED, 1 FLAT, 2 SHARP (R166, R184). -/
def indicatorOf (sum : Int) : Nat :=
  let r := sum % 100
  let offset := if 50 ≤ r then r - 100 else r
  if offset < -5 then 1 else if 5 < offset then 2 else 0

/-- The tuning indicator of a player: CENTRED with no current note (R166). -/
def tuningIndicator (s : State) (p : Player) : Nat :=
  match (s.player p).note with
  | none => 0
  | some _ => indicatorOf ((s.player p).bend + (s.activeSetup p).layers[(0 : LayerId)].detune + s.tuning)

/-- The six characters of a STATUS reply, built from the player's live state (R165, R184). -/
def statusChars (s : State) (p : Player) (seq : BitVec 4) : List Byte :=
  let ps := s.player p
  replyChars 0 seq
    (match ps.note with
      | none => 127
      | some n => n.number)
    (tuningIndicator s p + 4 * ps.latch.length)
    (ps.breath.code + 4 * (if ps.note.isSome then 0 else 1) + 8 * (if ps.learn.isSome then 1 else 0))
    ps.held

/-- The part begins to send in an open slot: the head reply, or a STATUS reply (R163). -/
def sendStart (p : Player) (s : State) : State :=
  match (s.player p).slot with
  | .idle | .sending _ => s
  | .opened seq =>
    match (s.player p).replies with
    | [] => s.modPlayer p fun ps => { ps with slot := .sending (statusChars s p seq) }
    | r :: rs => s.modPlayer p fun ps => { ps with slot := .sending (r.chars seq), replies := rs }

/-- The sixth reply character ends (R163). -/
def sendDone (p : Player) (s : State) : State :=
  match (s.player p).slot with
  | .sending _ => s.modPlayer p fun ps => { ps with slot := .idle }
  | .idle | .opened _ => s

/-- The instrument begins a character in OPEN: the slot closes (R164). -/
def closeSlot (p : Player) (s : State) : State :=
  match (s.player p).slot with
  | .opened _ => s.modPlayer p fun ps => { ps with slot := .idle }
  | .idle | .sending _ => s

/-- The instrument begins a character in SENDING: the reply is discarded and COLLISION set (R164). -/
def collide (p : Player) (s : State) : State :=
  match (s.player p).slot with
  | .sending _ => raiseFlag p collisionFlag (s.modPlayer p fun ps => { ps with slot := .idle })
  | .idle | .opened _ => s

end Sys2Proof.Machine
end

