-- ==== Sys2Proof/Machine/Render.lean ====
section
/-! DEFINITION. Voice rendering and the mix (spec/08): the sample period of one voice, the buses, gains,
saturation, clip flags and the audio frame. -/

namespace Sys2Proof.Machine

/-- The table position of a phase: entry index and fraction (R133). -/
def tableIndex (phase : Word) : Nat := phase.toNat / 2 ^ 24
def tableFraction (phase : Word) : Nat := phase.toNat / 256 % 65536

/-- A wave reading by interpolation, rounded toward minus infinity; entry 255 is followed by entry 0 (R134). -/
def waveReading (m : Memory) (n : WaveId) (phase : Word) : Int :=
  let lo := waveEntry m n (tableIndex phase)
  let hi := waveEntry m n ((tableIndex phase + 1) % 256)
  lo + (hi - lo) * tableFraction phase / 65536

/-- The blended reading of a voice (R135). -/
def blended (m : Memory) (vo : Voice) : Int :=
  let a := waveReading m vo.copies.waveA vo.phase
  let b := waveReading m vo.copies.waveB vo.phase
  a + (b - a) * vo.morph / 256

/-- Move `x` toward `goal` by `up` or `down`, not past it (R136). -/
def stepToward (up down x goal : Nat) : Nat :=
  if x < goal then min (x + up) goal else if goal < x then max (x - down) goal else x

/-- The amplitude after a sample period's step, at the step the voice's state gives (R136). A RELEASING or
FADING voice has no step upward. -/
def steppedAmplitude (vo : Voice) : Nat :=
  match vo.state with
  | .sounding => stepToward vo.copies.riseStep vo.copies.fallStep vo.amplitude vo.target
  | .releasing => stepToward 0 vo.copies.releaseStep vo.amplitude vo.target
  | .fading => stepToward 0 fadeStep vo.amplitude vo.target
  | .latched => vo.amplitude
  | .free => vo.amplitude

/-- The voice output, with the amplitude after the step (R137); a FREE voice gives nothing (R132). -/
def voiceOutput (m : Memory) (vo : Voice) : Int :=
  if vo.state = .free then 0 else blended m vo * steppedAmplitude vo / 256

/-- The left and right parts of a voice's output (R138). -/
def leftPart (m : Memory) (vo : Voice) : Int := voiceOutput m vo * (128 - (vo.copies.pan : Int)) / 128
def rightPart (m : Memory) (vo : Voice) : Int := voiceOutput m vo * vo.copies.pan / 128

/-- What a voice gives the direct bus of a player (R145). -/
def directPart (m : Memory) (p : Player) (vo : Voice) : Int :=
  if vo.use.map VoiceUse.bus = some p then voiceOutput m vo else 0

/-- A FADING or RELEASING voice at amplitude 0 after the step is reported (R140). -/
def endDetected (vo : Voice) : Bool :=
  (vo.state = .fading || vo.state = .releasing) && steppedAmplitude vo = 0

/-- A voice after its sample period: amplitude stepped, phase advanced, its end reported (R132, R136, R139,
R140). A FREE voice is not rendered. -/
def Voice.rendered (vo : Voice) : Voice :=
  if vo.state = .free then vo
  else
    { vo with
      amplitude := steppedAmplitude vo
      phase := vo.phase + BitVec.ofNat 32 vo.increment
      endReported := vo.endReported || endDetected vo }

/-- The six bus sums of a sample period: main left, main right, direct P0 to P3 (R145). -/
def busSums (s : State) : Vector Int 6 :=
  let sum (part : Voice → Int) : Int := (s.voices.toList.map part).sum
  #v[sum (leftPart s.waves), sum (rightPart s.waves), sum (directPart s.waves 0),
     sum (directPart s.waves 1), sum (directPart s.waves 2), sum (directPart s.waves 3)]

/-- A bus sum scaled by its gain, rounded toward minus infinity (R147). -/
def scaled (gain : Nat) (sum : Int) : Int := sum * gain / 256

/-- Saturation to the signed 24-bit range (R147). -/
def saturate (x : Int) : Int := clampInt (-8388608) 8388607 x

/-- The saturation moves a sample (R147). -/
def clips (x : Int) : Bool := saturate x ≠ x

/-- The six bus sums scaled by their gains, before saturation (R146, R147). -/
def scaledBuses (s : State) : Vector Int 6 :=
  let b := busSums s
  #v[scaled s.masterGain b[0], scaled s.masterGain b[1],
     scaled s.directGains[0] b[2], scaled s.directGains[1] b[3],
     scaled s.directGains[2] b[4], scaled s.directGains[3] b[5]]

/-- The slot of a 24-bit sample: left-justified, its eight lowest bits 0 (R148). -/
def slotOf (sample : Int) : Word := BitVec.ofInt 32 (sample * 256)

/-- The eight slots of the frame that carries six samples; slots 6 and 7 carry 0 (R148). -/
def frameOf (x : Vector Int 6) : Vector Word 8 :=
  #v[slotOf x[0], slotOf x[1], slotOf x[2], slotOf x[3], slotOf x[4], slotOf x[5], 0, 0]

/-- The silence count of an UP link rises by one at each sample period, up to 2,400 (R158; log 3). -/
def PlayerState.countSilence (ps : PlayerState) : PlayerState :=
  if ps.link = .up then { ps with silence := ps.silence.map fun n => min (n + 1) silenceLimit } else ps

/-- One sample period: the count advances, the frame of the samples formed before begins, every voice that
is not FREE is rendered from one state, and the mixer forms the six samples (R131, R132, R145 to R148,
R158). -/
def renderPeriod (s : State) : State :=
  let x := scaledBuses s
  State.modPlayers
    { s with
      sampleCount := s.sampleCount + 1
      voices := mapVector Voice.rendered s.voices
      audioFrame := frameOf s.samples
      samples := mapVector saturate x
      clipMain := s.clipMain || clips x[0] || clips x[1]
      clipDirect := s.clipDirect || clips x[2] || clips x[3] || clips x[4] || clips x[5] }
    PlayerState.countSilence

/-- The bytes of an audio slot in the order they go out, least significant first (R148). -/
def slotBytes (w : Word) : List Byte :=
  [w.extractLsb' 0 8, w.extractLsb' 8 8, w.extractLsb' 16 8, w.extractLsb' 24 8]

end Sys2Proof.Machine
end

