-- ==== Sys2Proof/Machine/Desk.lean ====
section
/-! DEFINITION. The desk port (spec/10, spec/11): the desk map's bytes as read and written, sixteen-bit
fields, control requests, event windows, status reads and transactions. -/

namespace Sys2Proof.Machine

def lowByte (v : Half) : Byte := v.extractLsb' 0 8
def highByte (v : Half) : Byte := v.extractLsb' 8 8

/-- A number as a byte, and as a sixteen-bit field. -/
def natByte (n : Nat) : Byte := BitVec.ofNat 8 n
def natHalf (n : Nat) : Half := BitVec.ofNat 16 n
/-- A signed number as a byte (R71). -/
def intByte (x : Int) : Byte := BitVec.ofInt 8 x
def boolByte (b : Bool) : Byte := if b then 1 else 0

/-- One byte of a sixteen-bit value, by the parity of its place: the low byte comes first (R171). -/
def halfByteAt (off : Nat) (v : Half) : Byte := if off % 2 = 0 then lowByte v else highByte v

/-! ### Setups (R62 to R71, R187) -/

/-- Byte i of a key set, eight keys a byte (R70). -/
def keyByte (k : KeySet) (i : Nat) : Byte := k.extractLsb' (8 * i) 8

/-- A key set with byte i replaced; the other sixteen keys keep their membership (R70). -/
def withKeyByte (i : Nat) (v : Byte) (k : KeySet) : KeySet :=
  match i with
  | 0 => k.extractLsb' 16 8 ++ k.extractLsb' 8 8 ++ v
  | 1 => k.extractLsb' 16 8 ++ v ++ k.extractLsb' 0 8
  | _ => v ++ k.extractLsb' 8 8 ++ k.extractLsb' 0 8

/-- An override entry as a sixteen-bit field: value low, kind high (R69). -/
def Override.half : Override → Half
  | .shift v => (0 : Byte) ++ intByte v
  | .fixed n => (1 : Byte) ++ natByte n

/-- The override entry a sixteen-bit write stores (R69). -/
def overrideOf (v : Half) : Override :=
  if (highByte v).toNat % 2 = 0 then .shift (clampInt (-3) 3 (lowByte v).toInt)
  else .fixed (min (lowByte v).toNat 127)

/-- Byte i of a layer record (R66, R187). -/
def Layer.byte (l : Layer) (i : Nat) : Byte :=
  match i with
  | 0 => boolByte l.enable
  | 1 => intByte l.interval
  | 2 => intByte l.detune
  | 3 => natByte l.waveA.val
  | 4 => natByte l.waveB.val
  | 5 => boolByte l.morphEnable
  | 6 => natByte l.gain
  | _ => natByte l.pan

/-- A layer record after a write of its byte i (R66 to R68). -/
def Layer.write (i : Nat) (v : Byte) (l : Layer) : Layer :=
  match i with
  | 0 => { l with enable := v.toNat % 2 = 1 }
  | 1 => { l with interval := clampInt (-24) 24 v.toInt }
  | 2 => { l with detune := clampInt (-50) 50 v.toInt }
  | 3 => { l with waveA := Fin.ofNat _ v.toNat }
  | 4 => { l with waveB := Fin.ofNat _ v.toNat }
  | 5 => { l with morphEnable := v.toNat % 2 = 1 }
  | 6 => { l with gain := min v.toNat 128 }
  | _ => { l with pan := min v.toNat 128 }

/-- The policy's code: 0 HOLD, 1 SILENT (R63). -/
def Policy.byte : Policy → Byte
  | .hold => 0
  | .silent => 1

/-- The sixteen-bit fields of a setup, by the offset of their low byte (R187). -/
def Setup.half (st : Setup) (off : Nat) : Option Half :=
  match off with
  | 0x10 => some st.override1.half
  | 0x12 => some st.override2.half
  | 0x14 => some st.override3.half
  | 0x18 => some (natHalf st.onset)
  | 0x1A => some (natHalf st.release)
  | 0x20 => some (natHalf st.riseStep)
  | 0x22 => some (natHalf st.fallStep)
  | 0x24 => some (natHalf st.releaseStep)
  | _ => none

/-- A setup after a sixteen-bit field takes effect, saturated as a whole (R64, R65, R67, R69). -/
def Setup.writeHalf (off : Nat) (v : Half) (st : Setup) : Setup :=
  match off with
  | 0x10 => { st with override1 := overrideOf v }
  | 0x12 => { st with override2 := overrideOf v }
  | 0x14 => { st with override3 := overrideOf v }
  | 0x18 => { st with onset := clampNat 1 4095 v.toNat }
  | 0x1A => { st with release := min v.toNat 4094 }
  | 0x20 => { st with riseStep := max 1 v.toNat }
  | 0x22 => { st with fallStep := max 1 v.toNat }
  | 0x24 => { st with releaseStep := max 1 v.toNat }
  | _ => st

/-- The one-byte fields of a setup below the layers; a byte no field occupies reads 0 (R71, R187). -/
def Setup.plainByte (st : Setup) (off : Nat) : Byte :=
  match off with
  | 0x00 => natByte st.chartSlot.val
  | 0x01 => keyByte st.keyMask 0
  | 0x02 => keyByte st.keyMask 1
  | 0x03 => keyByte st.keyMask 2
  | 0x04 => keyByte st.trillSet 0
  | 0x05 => keyByte st.trillSet 1
  | 0x06 => keyByte st.trillSet 2
  | 0x07 => natByte st.trillOn
  | 0x08 => natByte st.trillOff
  | 0x09 => natByte st.settleWindow
  | 0x0A => st.policy.byte
  | 0x0B => natByte st.baseNote
  | 0x0C => intByte st.transpose
  | 0x0D => natByte st.rangeLow
  | 0x0E => natByte st.rangeHigh
  | 0x16 => natByte st.curve.val
  | 0x17 => natByte st.smoothing
  | 0x1C => natByte st.biteRest
  | 0x1D => natByte st.bendDepth
  | 0x1E => natByte st.glideStep
  | _ => 0

/-- The layer that an offset of 0x40 to 0x5F lies in (R187). -/
def layerAt (off : Nat) : LayerId := Fin.ofNat _ ((off - 0x40) / 8)

/-- The offset of the sixteen-bit field that a byte of a setup belongs to: its low byte's place. -/
def evenOffset (off : Nat) : Nat := off - off % 2

/-- Byte `off` of a setup as the desk reads it (R71, R187). -/
def Setup.byte (st : Setup) (off : Nat) : Byte :=
  if 0x40 ≤ off ∧ off < 0x60 then st.layers[layerAt off].byte (off % 8)
  else
    match st.half (evenOffset off) with
    | some v => halfByteAt off v
    | none => st.plainByte off

/-- A setup after a write of a one-byte field (R63 to R68, R70); a byte no field occupies ignores it (R71). -/
def Setup.writePlain (off : Nat) (v : Byte) (st : Setup) : Setup :=
  match off with
  | 0x00 => { st with chartSlot := Fin.ofNat _ v.toNat }
  | 0x01 => { st with keyMask := withKeyByte 0 v st.keyMask }
  | 0x02 => { st with keyMask := withKeyByte 1 v st.keyMask }
  | 0x03 => { st with keyMask := withKeyByte 2 v st.keyMask }
  | 0x04 => { st with trillSet := withKeyByte 0 v st.trillSet }
  | 0x05 => { st with trillSet := withKeyByte 1 v st.trillSet }
  | 0x06 => { st with trillSet := withKeyByte 2 v st.trillSet }
  | 0x07 => { st with trillOn := max 1 v.toNat }
  | 0x08 => { st with trillOff := max 1 v.toNat }
  | 0x09 => { st with settleWindow := min v.toNat 15 }
  | 0x0A => { st with policy := if v.toNat % 2 = 0 then .hold else .silent }
  | 0x0B => { st with baseNote := min v.toNat 127 }
  | 0x0C => { st with transpose := clampInt (-24) 24 v.toInt }
  | 0x0D => { st with rangeLow := min v.toNat 127 }
  | 0x0E => { st with rangeHigh := min v.toNat 127 }
  | 0x16 => { st with curve := Fin.ofNat _ v.toNat }
  | 0x17 => { st with smoothing := clampNat 1 16 v.toNat }
  | 0x1C => { st with biteRest := min v.toNat 127 }
  | 0x1D => { st with bendDepth := min v.toNat 200 }
  | 0x1E => { st with glideStep := v.toNat }
  | _ => st

/-- A setup after a write of a one-byte field, of a layer or below the layers. -/
def Setup.writeByte (off : Nat) (v : Byte) (st : Setup) : Setup :=
  if 0x40 ≤ off ∧ off < 0x60 then
    { st with layers := st.layers.set (layerAt off) (st.layers[layerAt off].write (off % 8) v) }
  else st.writePlain off v

/-! ### Reading (R49, R71, R143, R170, R172, R175, R186) -/

/-- The current note read-out: the number, or 0xFF when absent (R175, R186). -/
def noteByte : Option Note → Byte
  | none => 0xFF
  | some n => natByte n.number

/-- Byte `off` of a player area (R175, R186). -/
def PlayerState.byte (ps : PlayerState) (off : Nat) : Byte :=
  match off with
  | 0x00 => boolByte ps.enabled
  | 0x01 => natByte ps.configuredRate.code
  | 0x02 => natByte ps.reserve
  | 0x03 => natByte ps.ceiling
  | 0x04 => lowByte (natHalf ps.zeroOffset)
  | 0x05 => highByte (natHalf ps.zeroOffset)
  | 0x06 => natByte ps.threshold
  | 0x08 => ps.maskA
  | 0x09 => ps.maskB
  | 0x10 => natByte ps.link.code
  | 0x11 => natByte ps.workingRate.code
  | 0x12 => natByte ps.keyCount
  | 0x13 => boolByte ps.capturePending
  | 0x14 => natByte ps.breath.code
  | 0x16 => lowByte (natHalf ps.level)
  | 0x17 => highByte (natHalf ps.level)
  | 0x18 => natByte ps.held
  | 0x19 => natByte ps.latch.length
  | 0x1A => noteByte ps.note
  | 0x1B => natByte ps.events.length
  | 0x1C => ps.statusA
  | 0x1D => ps.statusB
  | _ => 0

/-- Byte `off` of the control and status area (R172, R186). -/
def State.controlByte (s : State) (off : Nat) : Byte :=
  match off with
  | 0x00 => vendorCode
  | 0x01 => lowByte partCode
  | 0x02 => highByte partCode
  | 0x03 => revisionCode
  | 0x09 => match s.intMode with
    | .level => 0
    | .edge => 1
  | 0x0A => match s.intPolarity with
    | .activeLow => 0
    | .activeHigh => 1
  | 0x0B => intByte s.tuning
  | 0x0C => lowByte (natHalf s.masterGain)
  | 0x0D => highByte (natHalf s.masterGain)
  | 0x0E => lowByte (natHalf s.directGains[0])
  | 0x0F => highByte (natHalf s.directGains[0])
  | 0x10 => lowByte (natHalf s.directGains[1])
  | 0x11 => highByte (natHalf s.directGains[1])
  | 0x12 => lowByte (natHalf s.directGains[2])
  | 0x13 => highByte (natHalf s.directGains[2])
  | 0x14 => lowByte (natHalf s.directGains[3])
  | 0x15 => highByte (natHalf s.directGains[3])
  | 0x18 => s.globalStatus
  | 0x19 => s.globalMask
  | _ => 0

/-- The byte stored or shown at an address, with no effect of a read (R170). An event window shows 0 here:
what a read there returns is R179's. -/
def State.byteAt (s : State) (a : Half) : Byte :=
  match placeOf a with
  | .control off => s.controlByte off
  | .window _ => 0
  | .area p off => (s.player p).byte off
  | .setup n off => (s.setup n).byte off
  | .curve n off => if off < 34 then halfByteAt off (natHalf (s.curves[n].toList.getD (off / 2) 0)) else 0
  | .chart n e b => (s.entry n e).byte b.val
  | .wave n off => Memory.read s.waves (0x2000 + 512 * n.val + off)
  | .unmapped => 0

/-! ### Reads with an effect (R171, R179, R180) -/

/-- The first byte of a window read: the count, with the head record moved into the read buffer (R179). -/
def popWindow (p : Player) (s : State) : State :=
  s.modPlayer p fun ps =>
    match ps.events with
    | [] => { ps with window := none }
    | e :: es => { ps with window := some e, events := es }

/-- The ten bytes of a read buffer; zeros when it is empty (R179). -/
def bufferBytes : Option EventRecord → List Byte
  | none => List.replicate 10 0
  | some e => e.bytes

/-- The data bytes before the one now on the port in the transaction in progress. -/
def State.place (s : State) : Nat :=
  match s.txn with
  | none => 0
  | some t => t.count

/-- One data byte of a read transaction at a window: the effect and the byte returned (R179). -/
def takeWindowByte (p : Player) (s : State) : State × Byte :=
  if s.place = 0 then (popWindow p s, natByte (s.player p).events.length)
  else (s, (bufferBytes (s.player p).window).getD (s.place - 1) 0)

/-- A read of status A clears the flags it returns, but LINK_LOST while the link is LOST (R180). -/
def PlayerState.readStatusA (ps : PlayerState) : PlayerState :=
  { ps with statusA := if ps.link = .lost then ps.statusA &&& linkLost else 0 }

/-- A read of a status byte: the effect and the byte returned (R180). -/
def takeStatusByte (b : StatusByte) (s : State) : State × Byte :=
  match b with
  | .statusA p => (s.modPlayer p PlayerState.readStatusA, (s.player p).statusA)
  | .statusB p => (s.modPlayer p fun ps => { ps with denied := false }, (s.player p).statusB)
  | .global => ({ s with clipMain := false, clipDirect := false }, s.globalStatus)

/-- The captured high byte of the breath level, if the transaction has one (R171). -/
def State.captured (s : State) : Option Byte :=
  match s.txn with
  | none => none
  | some t => t.captured

/-- A read of a byte of the breath level: the low byte captures the whole level, the high byte returns the
captured part (R171). -/
def takeLevelByte (p : Player) (h : HalfByte) (s : State) : State × Byte :=
  let level := natHalf (s.player p).level
  match h with
  | .low => (s.modTxn fun t => { t with captured := some (highByte level) }, lowByte level)
  | .high => (s, s.captured.getD (highByte level))

/-- The addresses of the status bytes, the breath level and the mask bytes (R186). -/
def statusAddress : StatusByte → Half
  | .statusA p => areaAddress p 0x1C
  | .statusB p => areaAddress p 0x1D
  | .global => controlAddress 0x18
def levelAddress (p : Player) : HalfByte → Half
  | .low => areaAddress p 0x16
  | .high => areaAddress p 0x17
def maskAddress : MaskByte → Half
  | .maskA p => areaAddress p 0x08
  | .maskB p => areaAddress p 0x09
  | .global => controlAddress 0x19

/-- A read of the data byte at any address: its effect and the byte returned (R170). -/
def takeByteAt (a : Half) (s : State) : State × Byte :=
  match placeOf a with
  | .window p => takeWindowByte p s
  | .area p 0x16 => takeLevelByte p .low s
  | .area p 0x17 => takeLevelByte p .high s
  | .area p 0x1C => takeStatusByte (.statusA p) s
  | .area p 0x1D => takeStatusByte (.statusB p) s
  | .control 0x18 => takeStatusByte .global s
  | .control _ | .area _ _ | .setup _ _ | .curve _ _ | .chart _ _ _ | .wave _ _ | .unmapped =>
    (s, s.byteAt a)

/-! ### Writing (R47, R69 to R71, R83, R119, R143, R146, R150, R160, R170 to R173, R178, R181, R182) -/

/-- A byte of a sixteen-bit field at `a`, an even offset's address being the low byte's. A low byte is held;
a high byte takes effect with the held low byte of its own field, or with the stored low byte (R171). -/
def writeHalfField (a : Half) (high : Bool) (v : Byte) (commit : Half → State → State) (s : State) :
    State :=
  if high then
    let field := a - 1
    match s.heldLow with
    | none => commit (v ++ s.byteAt field) s
    | some (owner, lo) =>
      if owner = field then commit (v ++ lo) { s with heldLow := none } else commit (v ++ s.byteAt field) s
  else { s with heldLow := some (a, v) }

/-- A reserve write: the smallest of the value, 64 and what the other reserves leave (R83). -/
def reserveOf (s : State) (p : Player) (v : Nat) : Nat :=
  min (min v 64) (64 - ((allPlayers.filter (· ≠ p)).map fun q => (s.player q).reserve).sum)

def writeReserve (p : Player) (v : Byte) (s : State) : State :=
  s.modPlayer p fun ps => { ps with reserve := reserveOf s p v.toNat }

/-- A queue threshold write saturates to 15; the live flags follow from the stored value (R178). -/
def writeThreshold (p : Player) (v : Byte) (s : State) : State :=
  s.modPlayer p fun ps => { ps with threshold := min v.toNat 15 }

/-- A mask byte write; the bits of unnamed flags are ignored and read 0 (R181, R186). -/
def writeMask (m : MaskByte) (v : Byte) (s : State) : State :=
  match m with
  | .maskA p => s.modPlayer p fun ps => { ps with maskA := v }
  | .maskB p => s.modPlayer p fun ps => { ps with maskB := v &&& 0x07 }
  | .global => { s with globalMask := v &&& 0x03 }

/-- A write of the interrupt mode, modulo 2 (R172, R182). -/
def writeMode (v : Byte) (s : State) : State :=
  { s with intMode := if v.toNat % 2 = 0 then .level else .edge }

/-- A write of the interrupt polarity, modulo 2 (R172, R182). -/
def writePolarity (v : Byte) (s : State) : State :=
  { s with intPolarity := if v.toNat % 2 = 0 then .activeLow else .activeHigh }

/-- A PANIC request: every voice that is not FREE fades without a claim, every note ends, every stack is
emptied, players that blow are muted (R104, R12, R115). -/
def panicPlayer (p : Player) (s : State) : State :=
  let t := match (s.player p).note with
    | none => s
    | some note =>
      report p .noteOff note.tag note.number 0 OffReason.panic.code
        (s.modPlayer p fun ps => { ps with note := none })
  let t := match (t.player p).latch with
    | [] => t
    | e :: es =>
      report p .latchClear 0 (e :: es).length 0 3 (t.modPlayer p fun ps => { ps with latch := [] })
  t.modPlayer p fun ps =>
    { ps with breath := match ps.breath with
        | .breathing | .pending _ | .muted => .muted
        | .quiet => .quiet }

def panicAll (s : State) : State :=
  allPlayers.foldl (fun t p => panicPlayer p t) (s.modVoices Voice.panicked)

/-- A player's record after a soft reset (R2, R19, R51, R82 to R84, R107, R149, R174, R180). -/
def PlayerState.softReset (ps : PlayerState) : PlayerState :=
  { PlayerState.reset with
    zeroOffset := ps.zeroOffset, reserve := ps.reserve, ceiling := ps.ceiling, enabled := ps.enabled,
    configuredRate := ps.configuredRate, workingRate := ps.workingRate, threshold := ps.threshold,
    maskA := ps.maskA, maskB := ps.maskB }

/-- A SOFT_RESET request (R2, R19, R44, R61, R78, R80, R81, R105, R149, R171, R174, R180). The tables, the
sample count, the samples already formed, the transaction in progress and the writable fields are kept. -/
def softResetAll (s : State) : State :=
  State.modPlayers
    { s with
      voices := Vector.replicate _ resetVoice
      freeQueue := fullFreeQueue
      stampCounter := 0
      charts := mapVector (mapVector fun e => { e with reservation := none }) s.charts
      clipMain := false
      clipDirect := false
      heldLow := none }
    PlayerState.softReset

/-- A ZERO_CAPTURE request for a player (R4). -/
def captureZero (p : Player) (s : State) : State :=
  s.modPlayer p fun ps => { ps with capturePending := true }

/-- RESTORE_CHART is taken when its argument is a chart slot (R173). -/
def requestRestore (arg : BitVec 4) (s : State) : State :=
  if arg.toNat < 8 then restoreChart (Fin.ofNat _ arg.toNat) s else s

/-- ZERO_CAPTURE is taken when its argument is a player (R173). -/
def requestCapture (arg : BitVec 4) (s : State) : State :=
  if arg.toNat < 4 then captureZero (Fin.ofNat _ arg.toNat) s else s

/-- LINK_RESET is taken when its argument is a player (R173). -/
def requestLinkReset (arg : BitVec 4) (s : State) : State :=
  if arg.toNat < 4 then resetLink (Fin.ofNat _ arg.toNat) s else s

/-- A byte written to the control request location: code in bits 7 to 4, argument in bits 3 to 0; an
unknown code is ignored (R173, R186). -/
def controlRequest (v : Byte) (s : State) : State :=
  let arg : BitVec 4 := v.extractLsb' 0 4
  match (v.extractLsb' 4 4 : BitVec 4).toNat with
  | 1 => softResetAll s
  | 2 => panicAll s
  | 3 => requestRestore arg s
  | 4 => requestCapture arg s
  | 5 => requestLinkReset arg s
  | _ => s

/-- A gain takes effect, saturated to 1023 (R146). -/
def gainOf (v : Half) : Nat := min v.toNat 1023

/-- A data byte written to the control and status area (R172, R186). -/
def writeControl (a : Half) (off : Nat) (v : Byte) (s : State) : State :=
  match off with
  | 0x08 => controlRequest v s
  | 0x09 => writeMode v s
  | 0x0A => writePolarity v s
  | 0x0B => writeTuning v s
  | 0x19 => writeMask .global v s
  | 0x0C | 0x0D => writeHalfField a (off = 0x0D) v (fun x t => { t with masterGain := gainOf x }) s
  | 0x0E | 0x0F | 0x10 | 0x11 | 0x12 | 0x13 | 0x14 | 0x15 =>
    writeHalfField a (off % 2 = 1) v
      (fun x t => { t with directGains := t.directGains.set (Fin.ofNat 4 ((off - 0x0E) / 2)) (gainOf x) }) s
  | _ => s

/-- A data byte written to a player area (R175, R186). -/
def writeArea (a : Half) (p : Player) (off : Nat) (v : Byte) (s : State) : State :=
  match off with
  | 0x00 => writeLinkEnable p v s
  | 0x01 => s.modPlayer p fun ps => { ps with configuredRate := Rate.ofByte v }
  | 0x02 => writeReserve p v s
  | 0x03 => s.modPlayer p fun ps => { ps with ceiling := clampNat 1 64 v.toNat }
  | 0x04 | 0x05 =>
    writeHalfField a (off = 0x05) v
      (fun x t => t.modPlayer p fun ps => { ps with zeroOffset := min x.toNat 4095 }) s
  | 0x06 => writeThreshold p v s
  | 0x08 => writeMask (.maskA p) v s
  | 0x09 => writeMask (.maskB p) v s
  | _ => s

def State.modSetup (s : State) (n : SetupId) (f : Setup → Setup) : State :=
  { s with setups := s.setups.set n (f s.setups[n]) }

/-- A data byte written to a setup (R67 to R70, R187). -/
def writeSetup (a : Half) (n : SetupId) (off : Nat) (v : Byte) (s : State) : State :=
  match (s.setup n).half (evenOffset off) with
  | some _ => writeHalfField a (off % 2 = 1) v (fun x t => t.modSetup n (Setup.writeHalf (evenOffset off) x)) s
  | none => s.modSetup n (Setup.writeByte off v)

/-- A curve point takes effect, saturated to 1023 (R14). -/
def writePoint (n : CurveId) (i : Fin Config.numPoints) (x : Half) (s : State) : State :=
  { s with curves := s.curves.set n (s.curves[n].set i (min x.toNat 1023)) }

/-- A data byte written to a curve's block; the bytes after the points ignore writes (R14). -/
def writeCurve (a : Half) (n : CurveId) (off : Nat) (v : Byte) (s : State) : State :=
  if off < 34 then writeHalfField a (off % 2 = 1) v (writePoint n (Fin.ofNat _ (off / 2))) s else s

/-- A data byte written to a wave table (R143). -/
def writeWave (a : Half) (n : WaveId) (off : Nat) (v : Byte) (s : State) : State :=
  writeHalfField a (off % 2 = 1) v
    (fun x t => { t with waves := Memory.writeHalf t.waves (waveAddress n (off / 2)) x }) s

/-- A data byte written to a chart (R47). -/
def writeChart (n : ChartSlot) (e : EntryId) (b : Fin 8) (v : Byte) (s : State) : State :=
  if h : b.val < 7 then holdEntryByte ⟨b.val, h⟩ v s else writeEntryFlags n e v s

/-- A data byte written at any address (R170). -/
def writeByteAt (a : Half) (v : Byte) (s : State) : State :=
  match placeOf a with
  | .control off => writeControl a off v s
  | .window _ => s
  | .area p off => writeArea a p off v s
  | .setup n off => writeSetup a n off v s
  | .curve n off => writeCurve a n off v s
  | .chart n e b => writeChart n e b v s
  | .wave n off => writeWave a n off v s
  | .unmapped => s

/-! ### Transactions (R169, R170; log 7, log 8) -/

/-- The bytes the port returns in the operation and address stages: 0 on each (R169). -/
def stageBytes : List Byte := [0, 0, 0]

/-- The port has returned a data byte and moves on: the address advances in its unit (R170). -/
def moveOn (out : Byte) (s : State) : State :=
  { s with
    miso := s.miso ++ [out]
    txn := s.txn.map fun t => { t with addr := nextAddress t.addr, count := t.count + 1 } }

/-- In a read transaction the byte at the address is taken and driven out at the end of the byte before it:
from here it counts as read, whether or not the desk clocks it out (R169; log 11). -/
def takeAhead (s : State) : State :=
  match s.txn with
  | none => s
  | some x =>
    match x.op with
    | .read => (takeByteAt x.addr s).1.modTxn fun y => { y with out := (takeByteAt x.addr s).2 }
    | .write | .void => s

/-- A data byte written at `a`: in a write transaction that stands there, or, with no transaction in
progress, a transaction of that one byte. In any other transaction the byte cannot arise (log 7). -/
def deskWriteByte (a : Half) (effect : State → State) (s : State) : State :=
  match s.txn with
  | none => { effect s with miso := stageBytes ++ [0] }
  | some t => if t.op = .write ∧ t.addr = a then moveOn 0 (effect s) else s

/-- A data byte read at `a`, likewise (log 7): in a read transaction that stands there the desk clocks out the
byte taken ahead, and the next one is taken as it ends (R169; log 11). With no transaction in progress `take`
takes the one byte. -/
def deskReadByte (a : Half) (take : State → State × Byte) (s : State) : State :=
  match s.txn with
  | none => { (take s).1 with miso := stageBytes ++ [(take s).2] }
  | some x => if x.op = .read ∧ x.addr = a then takeAhead (moveOn x.out s) else s

/-- A data byte of any transaction that has no row of its own: written in a write transaction, exchanged for
the byte read in a read transaction, ignored with 0 returned in a void one (R169, R170; log 8, log 9). -/
def deskByte (a : Half) (v : Byte) (s : State) : State :=
  match s.txn with
  | none => deskWriteByte a (writeByteAt a v) s
  | some t =>
    match t.op with
    | .write => deskWriteByte a (writeByteAt a v) s
    | .read => deskReadByte a (takeByteAt a) s
    | .void => moveOn 0 s

/-- A window read with no transaction in progress: a transaction of eleven data bytes, the count and the
record's ten (R179; log 7). -/
def readWindowWhole (p : Player) (s : State) : State :=
  let t := popWindow p s
  { t with miso := stageBytes ++ natByte (s.player p).events.length :: bufferBytes (t.player p).window }

/-- A transaction begins, up to the end of its address; one in progress has select active already (R169;
log 7). A read transaction takes its first byte as the address ends. -/
def beginTransaction (op : Byte) (addr : Half) (s : State) : State :=
  match s.txn with
  | some _ => s
  | none =>
    takeAhead
      { s with
        miso := stageBytes
        txn := some
          { op := deskOpOf op, addr := addr, count := 0, hold := emptyHold, captured := none, out := 0 } }

/-- The transaction ends: held entry bytes and the captured level go with it; the held low byte is kept
(R48, R169, R171). -/
def endTransaction (s : State) : State := { s with txn := none }

end Sys2Proof.Machine
end

