-- ==== Sys2Proof/Machine/DeskEvents.lean ====
section
/-! DEFINITION. The meanings of the commands of the desk port: transactions, data bytes with and without a
row of their own, and control requests. -/

namespace Sys2Proof.Machine

/-- TRANSACTION_START (R169). -/
def execTransactionStart (op : Byte) (addr : Half) (s : State) : Host.Outcome State Fault Refusal :=
  answer s (beginTransaction op addr s)

/-- TRANSACTION_END (R48, R169). -/
def execTransactionEnd (s : State) : Host.Outcome State Fault Refusal := answer s (endTransaction s)

/-- DESK_WRITE (R170). -/
def execDeskWrite (addr : Half) (value : Byte) (s : State) : Host.Outcome State Fault Refusal :=
  answer s (deskByte addr value s)

/-- The control request location (R173, R186). -/
def requestAddress : Half := controlAddress 0x08

/-- SOFT_RESET (R173, R174); the argument is ignored. -/
def execSoftReset (_arg : BitVec 4) (s : State) : Host.Outcome State Fault Refusal :=
  answer s (deskWriteByte requestAddress softResetAll s)

/-- PANIC (R104, R173); the argument is ignored. -/
def execPanic (_arg : BitVec 4) (s : State) : Host.Outcome State Fault Refusal :=
  answer s (deskWriteByte requestAddress panicAll s)

/-- RESTORE_CHART (R50, R173). -/
def execRestoreChart (arg : BitVec 4) (s : State) : Host.Outcome State Fault Refusal :=
  answer s (deskWriteByte requestAddress (requestRestore arg) s)

/-- ZERO_CAPTURE (R4, R173). -/
def execZeroCapture (arg : BitVec 4) (s : State) : Host.Outcome State Fault Refusal :=
  answer s (deskWriteByte requestAddress (requestCapture arg) s)

/-- LINK_RESET (R161, R173). -/
def execLinkReset (arg : BitVec 4) (s : State) : Host.Outcome State Fault Refusal :=
  answer s (deskWriteByte requestAddress (requestLinkReset arg) s)

/-- LINK_DISABLE: a link enable byte with its lowest bit clear (R160). -/
def execLinkDisable (p : Player) (upper : BitVec 7) (s : State) : Host.Outcome State Fault Refusal :=
  answer s (deskWriteByte (areaAddress p 0x00) (writeLinkEnable p (upper ++ (0 : BitVec 1))) s)

/-- LINK_ENABLE: a link enable byte with its lowest bit set (R160). -/
def execLinkEnable (p : Player) (upper : BitVec 7) (s : State) : Host.Outcome State Fault Refusal :=
  answer s (deskWriteByte (areaAddress p 0x00) (writeLinkEnable p (upper ++ (1 : BitVec 1))) s)

/-- ENTRY_HOLDING_BUFFER_WRITE (R47). -/
def execEntryHoldingBufferWrite (n : ChartSlot) (e : EntryId) (b : Fin 7) (value : Byte) (s : State) :
    Host.Outcome State Fault Refusal :=
  answer s (deskWriteByte (entryAddress n e b.val) (holdEntryByte b value) s)

/-- CHART_ENTRY_FLAGS_WRITE (R47, R57). -/
def execChartEntryFlagsWrite (n : ChartSlot) (e : EntryId) (value : Byte) (s : State) :
    Host.Outcome State Fault Refusal :=
  answer s (deskWriteByte (entryAddress n e 7) (writeEntryFlags n e value) s)

/-- MASTER_TUNING_WRITE (R119, R125). -/
def execMasterTuningWrite (value : Byte) (s : State) : Host.Outcome State Fault Refusal :=
  answer s (deskWriteByte (controlAddress 0x0B) (writeTuning value) s)

/-- RESERVE_WRITE (R83). -/
def execReserveWrite (p : Player) (value : Byte) (s : State) : Host.Outcome State Fault Refusal :=
  answer s (deskWriteByte (areaAddress p 0x02) (writeReserve p value) s)

/-- QUEUE_THRESHOLD_WRITE (R178). -/
def execQueueThresholdWrite (p : Player) (value : Byte) (s : State) : Host.Outcome State Fault Refusal :=
  answer s (deskWriteByte (areaAddress p 0x06) (writeThreshold p value) s)

/-- MASK_WRITE (R181). -/
def execMaskWrite (m : MaskByte) (value : Byte) (s : State) : Host.Outcome State Fault Refusal :=
  answer s (deskWriteByte (maskAddress m) (writeMask m value) s)

/-- INTERRUPT_MODE_WRITE (R182). -/
def execInterruptModeWrite (value : Byte) (s : State) : Host.Outcome State Fault Refusal :=
  answer s (deskWriteByte (controlAddress 0x09) (writeMode value) s)

/-- INTERRUPT_POLARITY_WRITE (R182). -/
def execInterruptPolarityWrite (value : Byte) (s : State) : Host.Outcome State Fault Refusal :=
  answer s (deskWriteByte (controlAddress 0x0A) (writePolarity value) s)

/-- EVENT_WINDOW_READ: one data byte of a read transaction at the window, or the whole of one (R179; log 7). -/
def execEventWindowRead (p : Player) (s : State) : Host.Outcome State Fault Refusal :=
  answer s
    (if s.txn = none then readWindowWhole p s else deskReadByte (windowAddress p) (takeWindowByte p) s)

/-- STATUS_READ (R180). -/
def execStatusRead (b : StatusByte) (s : State) : Host.Outcome State Fault Refusal :=
  answer s (deskReadByte (statusAddress b) (takeStatusByte b) s)

/-- BREATH_LEVEL_READ (R171). -/
def execBreathLevelRead (p : Player) (h : HalfByte) (s : State) : Host.Outcome State Fault Refusal :=
  answer s (deskReadByte (levelAddress p h) (takeLevelByte p h) s)

end Sys2Proof.Machine
end

