-- ==== Sys2Proof/Machine/LinkEvents.lean ====
section
/-! DEFINITION. The meanings of the commands of the player links: characters, valid frames and the reply
slot. -/

namespace Sys2Proof.Machine

/-- CHARACTER (R151 to R153). -/
def execCharacter (p : Player) (data : Byte) (rx : Reception) (s : State) :
    Host.Outcome State Fault Refusal :=
  answer s (takeCharacter p data rx s)

/-- SENSE_FRAME (R155). -/
def execSenseFrame (p : Player) (f : FrameBody) (s : State) : Host.Outcome State Fault Refusal :=
  answer s (takeFrame p { kind := .sense, body := f } (takeSense p f) s)

/-- HELLO (R155, R157). -/
def execHello (p : Player) (f : FrameBody) (s : State) : Host.Outcome State Fault Refusal :=
  answer s (takeFrame p { kind := .hello, body := f } (takeHello p f) s)

/-- LEARN_REQ (R52, R53, R155). -/
def execLearnReq (p : Player) (f : FrameBody) (s : State) : Host.Outcome State Fault Refusal :=
  answer s (takeFrame p { kind := .learnReq, body := f } (takeLearnReq p f) s)

/-- REPLY_SEND_START (R163). -/
def execReplySendStart (p : Player) (s : State) : Host.Outcome State Fault Refusal :=
  answer s (sendStart p s)

/-- REPLY_SENT (R163). -/
def execReplySent (p : Player) (s : State) : Host.Outcome State Fault Refusal := answer s (sendDone p s)

/-- REPLY_SLOT_CLOSED (R164). -/
def execReplySlotClosed (p : Player) (s : State) : Host.Outcome State Fault Refusal :=
  answer s (closeSlot p s)

/-- COLLISION (R164). -/
def execCollision (p : Player) (s : State) : Host.Outcome State Fault Refusal := answer s (collide p s)

end Sys2Proof.Machine
end

