-- ==== Sys2Proof/Machine/PartEvents.lean ====
section
/-! DEFINITION. The meanings of the commands that the part raises itself: power-on, the sample period, the
ends of fades and releases, and the two timeouts. A command whose event has not been raised changes
nothing (log 1). -/

namespace Sys2Proof.Machine

/-- POWER_ON (R78 and the power-on columns of every chapter). The waiting commands stay queued (log 15). -/
def execPowerOn (s : State) : Host.Outcome State Fault Refusal :=
  answer s { State.reset with pending := s.pending }

/-- SAMPLE_PERIOD (R131, R132). -/
def execSamplePeriod (s : State) : Host.Outcome State Fault Refusal := answer s (renderPeriod s)

/-- A fade end has been reported for a voice (R140). -/
def fadeEndDue (v : VoiceId) (s : State) : Bool :=
  (s.voice v).state = .fading && (s.voice v).endReported

/-- FADE_END (R99, R100). -/
def execFadeEnd (v : VoiceId) (s : State) : Host.Outcome State Fault Refusal :=
  answer s (if fadeEndDue v s then takeFadeEnd v s else s)

/-- A release end has been reported for a voice (R140). -/
def releaseEndDue (v : VoiceId) (s : State) : Bool :=
  (s.voice v).state = .releasing && (s.voice v).endReported

/-- RELEASE_END (R101). -/
def execReleaseEnd (v : VoiceId) (s : State) : Host.Outcome State Fault Refusal :=
  answer s (if releaseEndDue v s then freeVoice v s else s)

/-- LEARN_TIMEOUT (R59; log 4). -/
def execLearnTimeout (p : Player) (s : State) : Host.Outcome State Fault Refusal :=
  answer s (if learnDue p s then endLearn p .timeout true s else s)

/-- SILENCE_TIMEOUT (R158; log 3). -/
def execSilenceTimeout (p : Player) (s : State) : Host.Outcome State Fault Refusal :=
  answer s (if silenceDue p s then loseLink p s else s)

/-- INTERRUPT_PULSE_END (R182). -/
def execInterruptPulseEnd (s : State) : Host.Outcome State Fault Refusal :=
  answer s { s with pulse := false }

end Sys2Proof.Machine
end

