-- ==== Sys2Proof/Machine/Dispatch.lean ====
section
/-! DEFINITION. The effect of each command on everything but the queue of commands: one direct call of its
meaning for each row of spec/opcode_table.json. -/

namespace Sys2Proof.Machine

def exec (i : Instr) (s : State) : Host.Outcome State Fault Refusal :=
  match i with
  | .powerOn => Sys2Proof.Machine.execPowerOn s
  | .samplePeriod => Sys2Proof.Machine.execSamplePeriod s
  | .fadeEnd v => Sys2Proof.Machine.execFadeEnd v s
  | .releaseEnd v => Sys2Proof.Machine.execReleaseEnd v s
  | .learnTimeout p => Sys2Proof.Machine.execLearnTimeout p s
  | .silenceTimeout p => Sys2Proof.Machine.execSilenceTimeout p s
  | .character p data rx => Sys2Proof.Machine.execCharacter p data rx s
  | .senseFrame p f => Sys2Proof.Machine.execSenseFrame p f s
  | .hello p f => Sys2Proof.Machine.execHello p f s
  | .learnReq p f => Sys2Proof.Machine.execLearnReq p f s
  | .replySendStart p => Sys2Proof.Machine.execReplySendStart p s
  | .replySent p => Sys2Proof.Machine.execReplySent p s
  | .replySlotClosed p => Sys2Proof.Machine.execReplySlotClosed p s
  | .collision p => Sys2Proof.Machine.execCollision p s
  | .interruptPulseEnd => Sys2Proof.Machine.execInterruptPulseEnd s
  | .transactionStart op addr => Sys2Proof.Machine.execTransactionStart op addr s
  | .transactionEnd => Sys2Proof.Machine.execTransactionEnd s
  | .deskWrite addr value => Sys2Proof.Machine.execDeskWrite addr value s
  | .softReset arg => Sys2Proof.Machine.execSoftReset arg s
  | .panic arg => Sys2Proof.Machine.execPanic arg s
  | .restoreChart arg => Sys2Proof.Machine.execRestoreChart arg s
  | .zeroCapture arg => Sys2Proof.Machine.execZeroCapture arg s
  | .linkReset arg => Sys2Proof.Machine.execLinkReset arg s
  | .linkDisable p upper => Sys2Proof.Machine.execLinkDisable p upper s
  | .linkEnable p upper => Sys2Proof.Machine.execLinkEnable p upper s
  | .entryHoldingBufferWrite n e b value => Sys2Proof.Machine.execEntryHoldingBufferWrite n e b value s
  | .chartEntryFlagsWrite n e value => Sys2Proof.Machine.execChartEntryFlagsWrite n e value s
  | .masterTuningWrite value => Sys2Proof.Machine.execMasterTuningWrite value s
  | .reserveWrite p value => Sys2Proof.Machine.execReserveWrite p value s
  | .queueThresholdWrite p value => Sys2Proof.Machine.execQueueThresholdWrite p value s
  | .maskWrite m value => Sys2Proof.Machine.execMaskWrite m value s
  | .interruptModeWrite value => Sys2Proof.Machine.execInterruptModeWrite value s
  | .interruptPolarityWrite value => Sys2Proof.Machine.execInterruptPolarityWrite value s
  | .eventWindowRead p => Sys2Proof.Machine.execEventWindowRead p s
  | .statusRead b => Sys2Proof.Machine.execStatusRead b s
  | .breathLevelRead p h => Sys2Proof.Machine.execBreathLevelRead p h s

end Sys2Proof.Machine
end

