-- ==== Sys2Proof/WellFormed.lean ====
section
/-! DEFINITION. When a command is one that its row of spec/opcode_table.json names. The meanings are
total and give an ill-formed command the effect its bytes have in the part (R170, R173); the checks say
which row an event belongs to. -/

namespace Sys2Proof

/-- The offset of `a` in the player areas 0x0100 to 0x01FF, if it lies there (R175). -/
def playerOffset (a : Half) : Option Nat :=
  if 0x100 ≤ a.toNat ∧ a.toNat < 0x200 then some (a.toNat % 64) else none

/-- Whether a desk write of `v` at `a` has a row of its own in the table: a known control request, the
interrupt mode and polarity, the master tuning, a mask byte, a link enable, a reserve, a queue threshold
or a byte of the chart store. -/
def hasOwnWriteRow (a : Half) (v : Byte) : Bool :=
  (a = 0x08 ∧ 1 ≤ v.toNat / 16 ∧ v.toNat / 16 ≤ 5) ∨ a = 0x09 ∨ a = 0x0A ∨ a = 0x0B ∨ a = 0x19
    ∨ playerOffset a ∈ [some 0x00, some 0x02, some 0x06, some 0x08, some 0x09]
    ∨ (0x1000 ≤ a.toNat ∧ a.toNat < 0x2000)

/-- The command is one its row names: a DESK_WRITE has no row of its own (R170), and a control request
has an argument with which it is taken (R173). -/
def Instr.wellFormed : Instr → Bool
  | .deskWrite a v => !hasOwnWriteRow a v
  | .restoreChart arg => arg.toNat < 8
  | .zeroCapture arg => arg.toNat < 4
  | .linkReset arg => arg.toNat < 4
  | .powerOn | .samplePeriod | .fadeEnd _ | .releaseEnd _ | .learnTimeout _ | .silenceTimeout _ => true
  | .character _ _ _ | .senseFrame _ _ | .hello _ _ | .learnReq _ _ => true
  | .replySendStart _ | .replySent _ | .replySlotClosed _ | .collision _ | .interruptPulseEnd => true
  | .transactionStart _ _ | .transactionEnd | .softReset _ | .panic _ => true
  | .linkDisable _ _ | .linkEnable _ _ => true
  | .entryHoldingBufferWrite _ _ _ _ | .chartEntryFlagsWrite _ _ _ => true
  | .masterTuningWrite _ | .reserveWrite _ _ | .queueThresholdWrite _ _ | .maskWrite _ _ => true
  | .interruptModeWrite _ | .interruptPolarityWrite _ => true
  | .eventWindowRead _ | .statusRead _ | .breathLevelRead _ _ => true

end Sys2Proof
end

