-- ==== Sys2Proof/Safety.lean ====
section
/-! DEFINITION. What counts as a sound state of the part: the invariants the claims are about, and the words
in which the claims say what a command changes and what it leaves unchanged. -/

namespace Sys2Proof.Machine

/-! ### What a command leaves unchanged

A claim says what a command may change by an equation: the state after is the state before with the named
fields taken from the state after. The interrupt pulse and pin follow the flags after every command
(`LineFollows`). -/

/-- Every player but one is as before. -/
def SameOthers (p : Player) (s t : State) : Prop := ∀ q, q ≠ p → t.player q = s.player q

/-- Every voice but one is as before. -/
def SameOtherVoices (v : VoiceId) (s t : State) : Prop := ∀ w, w ≠ v → t.voice w = s.voice w

/-- Every chart entry but one is as before. -/
def SameOtherEntries (n : ChartSlot) (e : EntryId) (s t : State) : Prop :=
  ∀ m f, ¬(m = n ∧ f = e) → t.entry m f = s.entry m f

/-- A player's record after events that only play: note, tag counter, latch stack, held count, replies,
events and the DENIED flag may change, and of status A the two overflow flags may be set (R162, R177, R180). -/
def PlayedOnly (a b : PlayerState) : Prop :=
  b = { a with
    note := b.note, tagCounter := b.tagCounter, latch := b.latch, held := b.held, replies := b.replies,
    statusA := b.statusA, denied := b.denied, events := b.events } ∧
  ∃ m, b.statusA = a.statusA ||| m ∧ m &&& 0x3F = 0

/-- A player's record after another player's requests took voices of its: note, latch stack, held count, replies and
events may change, of the note the binding list alone, and of status A the two overflow flags may be set (R96, R97,
R113). -/
def RobbedOnly (a b : PlayerState) : Prop :=
  b = { a with
    note := b.note, latch := b.latch, held := b.held, replies := b.replies, statusA := b.statusA,
    events := b.events } ∧
  (b.note.map fun n => { n with binding := [] }) = (a.note.map fun n => { n with binding := [] }) ∧
  ∃ m, b.statusA = a.statusA ||| m ∧ m &&& 0x3F = 0

/-- Only voices, the free queue, the stamp counter and what playing changes in the players' records change. -/
def SoundsOnly (s t : State) : Prop :=
  t = { s with
    voices := t.voices, freeQueue := t.freeQueue, stampCounter := t.stampCounter, players := t.players } ∧
  ∀ q, PlayedOnly (s.player q) (t.player q)

/-! ### The interrupt line (R182) -/

/-- An unmasked flag, sticky or live, is set. -/
def FlagUnmasked (s : State) : Prop :=
  (∃ p, (s.player p).statusA &&& (s.player p).maskA ≠ 0 ∨ (s.player p).statusB &&& (s.player p).maskB ≠ 0) ∨
  s.globalStatus &&& s.globalMask ≠ 0

/-- A flag that is unmasked in `t` went from clear in `s` to set in `t`. -/
def FlagRises (s t : State) : Prop :=
  (∃ p, (t.player p).statusA &&& ~~~(s.player p).statusA &&& (t.player p).maskA ≠ 0 ∨
    (t.player p).statusB &&& ~~~(s.player p).statusB &&& (t.player p).maskB ≠ 0) ∨
  t.globalStatus &&& ~~~s.globalStatus &&& t.globalMask ≠ 0

/-- The line is active: in LEVEL while an unmasked flag is set, in EDGE during a pulse. -/
def LineActive (t : State) : Prop :=
  match t.intMode with
  | .level => FlagUnmasked t
  | .edge => t.pulse = true

/-- The pin stands at the level of the polarity: high when active under ACTIVE_HIGH, low when active under
ACTIVE_LOW. -/
def PinDriven (t : State) : Prop := t.irqHigh = true ↔ (t.intPolarity = .activeHigh ↔ LineActive t)

/-- The pin is driven, LEVEL has no pulse, and in EDGE a pulse is in progress after a command just when one
was before or an unmasked flag rose. -/
def LineFollows (s t : State) : Prop :=
  PinDriven t ∧ (t.intMode = .level → t.pulse = false) ∧
  (t.intMode = .edge → (t.pulse = true ↔ s.pulse = true ∨ FlagRises s t))

/-! ### The desk port -/

/-- A data byte of operation `op` at `a` can arise: a transaction stands there, or none is in progress and
the byte is a transaction of its own (R169, R170; log 7). -/
def Stands (s : State) (op : DeskOp) (a : Half) : Prop :=
  s.txn = none ∨ ∃ x, s.txn = some x ∧ x.op = op ∧ x.addr = a

/-- The port has returned `out` and moved on: in a transaction the address advances within its unit, the
count of data bytes rises and `f` is what the byte did to the transaction's own record; a transaction of one
byte has returned 0 in its operation and address stages (R169, R170). -/
def PortMoved (s t : State) (out : Byte) (f : Transaction → Transaction) : Prop :=
  t.txn = s.txn.map (fun x => { f x with addr := nextAddress x.addr, count := x.count + 1 }) ∧
  t.miso = if s.txn = none then [0, 0, 0, out] else s.miso ++ [out]

/-- Two places lie in one unit of the desk map (R170). -/
def SameUnit : Place → Place → Prop
  | .control _, .control _ => True
  | .window p, .window q => p = q
  | .area p _, .area q _ => p = q
  | .setup n _, .setup m _ => n = m
  | .curve n _, .curve m _ => n = m
  | .chart n _ _, .chart m _ _ => n = m
  | .wave n _, .wave m _ => n = m
  | .unmapped, .unmapped => True
  | _, _ => False

/-- The first address of the unit that a place lies in, for the units of more than one byte (R170). -/
def unitBase : Place → Option Nat
  | .control _ => some 0
  | .area p _ => some (0x100 + 64 * p.val)
  | .setup n _ => some (0x400 + 128 * n.val)
  | .curve n _ => some (0xC00 + 64 * n.val)
  | .chart n _ _ => some (0x1000 + 512 * n.val)
  | .wave n _ => some (0x2000 + 512 * n.val)
  | .window _ | .unmapped => none

/-- The offset of a place in its unit, and the unit's size (R170). -/
def unitOffset : Place → Nat
  | .control off | .area _ off | .setup _ off | .curve _ off | .wave _ off => off
  | .chart _ e b => 8 * e.val + b.val
  | .window _ | .unmapped => 0
def unitSize : Place → Nat
  | .control _ | .area _ _ | .curve _ _ => 64
  | .setup _ _ => 128
  | .chart _ _ _ | .wave _ _ => 512
  | .window _ | .unmapped => 1

/-- The offsets of the sixteen-bit fields of a setup (R187). -/
def setupHalfOffsets : List Nat := [0x10, 0x12, 0x14, 0x18, 0x1A, 0x20, 0x22, 0x24]

/-- The address is the low byte of a writable sixteen-bit field: an output gain, a zero offset, a setup
override, threshold or step, a curve point or a wave entry (R171, R186, R187). -/
def IsLowByte (a : Half) : Prop :=
  match placeOf a with
  | .control off => off ∈ [0x0C, 0x0E, 0x10, 0x12, 0x14]
  | .area _ off => off = 0x04
  | .setup _ off => off ∈ setupHalfOffsets
  | .curve _ off => off < 34 ∧ off % 2 = 0
  | .wave _ off => off % 2 = 0
  | .window _ | .chart _ _ _ | .unmapped => False

/-- The addresses of a setup's and a curve's bytes (R71, R14). -/
def setupAddress (n : SetupId) (off : Nat) : Half := BitVec.ofNat 16 (0x400 + 128 * n.val + off)
def curveAddress (c : CurveId) (off : Nat) : Half := BitVec.ofNat 16 (0xC00 + 64 * c.val + off)

/-- An override entry of a sixteen-bit value: kind in the high byte modulo 2, value in the low byte, signed and
within ±3 octaves for SHIFT, at most 127 for FIXED (R69). -/
def overrideFrom (x : Nat) : Override :=
  if x / 256 % 2 = 0 then .shift (max (-3) (min 3 (BitVec.ofNat 8 x).toInt)) else .fixed (min (x % 256) 127)

/-- A setup after its sixteen-bit field at offset `k` takes the value `x` (R64, R65, R67, R69, R187). -/
def setupFieldAfter (k x : Nat) (st : Setup) : Setup :=
  if k = 0x10 then { st with override1 := overrideFrom x }
  else if k = 0x12 then { st with override2 := overrideFrom x }
  else if k = 0x14 then { st with override3 := overrideFrom x }
  else if k = 0x18 then { st with onset := max 1 (min x 4095) }
  else if k = 0x1A then { st with release := min x 4094 }
  else if k = 0x20 then { st with riseStep := max 1 x }
  else if k = 0x22 then { st with fallStep := max 1 x }
  else { st with releaseStep := max 1 x }

/-- The value a high byte at `a` gives its field: with the held low byte where that is the field's, else
with the stored low byte `stored` (R171). -/
def fieldValue (s : State) (a : Half) (stored v : Byte) : Nat :=
  match s.heldLow with
  | some (owner, lo) => if owner = a - 1 then 256 * v.toNat + lo.toNat else 256 * v.toNat + stored.toNat
  | none => 256 * v.toNat + stored.toNat

/-- The held low byte after a high byte at `a`: taken where it is the field's, else kept (R171). -/
def heldAfter (s : State) (a : Half) : Option (Half × Byte) :=
  match s.heldLow with
  | some (owner, lo) => if owner = a - 1 then none else some (owner, lo)
  | none => none

/-- What a one-byte place of a setup reads after a write of `v`: the value saturated or selected as its
field's row says; 0 where no field stands (R63 to R71, R187). -/
def setupByteAfter (off : Nat) (v : Byte) : Byte :=
  let low (n : Nat) : Byte := BitVec.ofNat 8 (min v.toNat n)
  let modulo (n : Nat) : Byte := BitVec.ofNat 8 (v.toNat % n)
  let signed (n : Int) : Byte := BitVec.ofInt 8 (max (-n) (min n v.toInt))
  if 0x40 ≤ off ∧ off < 0x60 then
    match off % 8 with
    | 0 => modulo 2
    | 1 => signed 24
    | 2 => signed 50
    | 3 => modulo 16
    | 4 => modulo 16
    | 5 => modulo 2
    | _ => low 128
  else if off = 0x00 ∨ off = 0x16 then modulo 8
  else if 0x01 ≤ off ∧ off ≤ 0x06 then v
  else if off = 0x07 ∨ off = 0x08 then BitVec.ofNat 8 (max 1 v.toNat)
  else if off = 0x09 then low 15
  else if off = 0x0A then modulo 2
  else if off = 0x0B ∨ off = 0x0D ∨ off = 0x0E ∨ off = 0x1C then low 127
  else if off = 0x0C then signed 24
  else if off = 0x17 then BitVec.ofNat 8 (max 1 (min v.toNat 16))
  else if off = 0x1D then low 200
  else if off = 0x1E then v
  else 0

/-! ### Records that a command queues -/

/-- An event record with the given fields and the present sample count. -/
def recordOf (s : State) (kind : EventKind) (tag : BitVec 8) (note : Nat) (flags : Byte) (value : Nat) :
    EventRecord :=
  { kind := kind, tag := tag, note := BitVec.ofNat 8 note, flags := flags, value := BitVec.ofNat 16 value,
    time := s.sampleCount }

/-- A player's record after several event records are queued in order (R177). -/
def PlayerState.queuedAll (ps : PlayerState) (l : List EventRecord) : PlayerState := l.foldl PlayerState.queued ps

/-- A player's record after several replies are placed in order (R162). -/
def PlayerState.placedAll (ps : PlayerState) (l : List Reply) : PlayerState := l.foldl PlayerState.placed ps

/-- The NOTE_OFF of the current note, if there is one (R89). -/
def noteOffRecords (s : State) (p : Player) (reason : Nat) : List EventRecord :=
  match (s.player p).note with
  | none => []
  | some n => [recordOf s .noteOff n.tag n.number 0 reason]

/-- The LATCH_CLEAR of a stack that holds entries (R112, R114, R115). -/
def latchClearRecords (s : State) (p : Player) (reason : Nat) : List EventRecord :=
  if (s.player p).latch = [] then []
  else [recordOf s .latchClear 0 (s.player p).latch.length 0 reason]

/-- The LEARN_ENDED of a pending learn; its flags carry the result code (R56, R185). -/
def learnEndedRecords (s : State) (p : Player) (code : Nat) : List EventRecord :=
  match (s.player p).learn with
  | none => []
  | some r => [recordOf s .learnEnded 0 r.slot.val (BitVec.ofNat 8 code) r.entry.val]

/-- The LEARN_RESULT of a pending learn that is cancelled (R58). -/
def cancelledReplies (s : State) (p : Player) : List Reply :=
  match (s.player p).learn with
  | none => []
  | some r => [.learnResult r.slot.val .cancelled r.entry.val]

/-- A selection waits while the breath is PENDING or BREATHING (R21, R22). -/
def PlayerState.waits (ps : PlayerState) : Bool :=
  match ps.breath with
  | .pending _ | .breathing => ps.selected ≠ ps.active
  | .quiet | .muted => false

/-- The SETUP_APPLIED of a waiting selection (R22). -/
def appliedRecords (s : State) (p : Player) : List EventRecord :=
  if (s.player p).waits then [recordOf s .setupApplied 0 0 0 (s.player p).selected.val] else []

/-- The records of a link that leaves UP, in the order of R158: LINK_LOST, NOTE_OFF, LATCH_CLEAR,
LEARN_ENDED and SETUP_APPLIED. -/
def leaveRecords (s : State) (p : Player) (cause : Nat) : List EventRecord :=
  [recordOf s .linkLost 0 0 0 cause] ++ noteOffRecords s p 3 ++ latchClearRecords s p 2
    ++ learnEndedRecords s p 6 ++ appliedRecords s p

/-! ### Voices that a command lets go -/

/-- The voices that a player's current note has as voice items, and as open claims; those of its latch
stack (R84, R107). -/
def PlayerState.boundList (ps : PlayerState) : List VoiceId := (ps.note.map boundVoices).getD []
def PlayerState.claimedList (ps : PlayerState) : List VoiceId := (ps.note.map claimedVoices).getD []
def PlayerState.stackList (ps : PlayerState) : List VoiceId := ps.latch.flatMap LatchEntry.voices

/-- A voice once the player's note has ended by an off decision: SOUNDING voices of the note fall silent at
their release step, and its open claims are cleared (R89). -/
def endedVoice (ps : PlayerState) (v : VoiceId) (vo : Voice) : Voice :=
  let a := if v ∈ ps.boundList ∧ vo.state = .sounding then
      { vo with state := .releasing, target := 0, endReported := false } else vo
  if v ∈ ps.claimedList then { a with claim := none } else a

/-- A voice once the player's latch stack has been emptied by the button or by a link event (R112, R114). -/
def unlatchedVoice (ps : PlayerState) (v : VoiceId) (vo : Voice) : Voice :=
  if v ∈ ps.stackList ∧ vo.state = .latched then
    { vo with state := .releasing, target := 0, endReported := false } else vo

/-- The record of a player whose link leaves UP, apart from the queues and what its cause adds (R158 steps
4 to 7, R19, R107, R156). -/
def PlayerState.left (ps : PlayerState) (after : LinkState) : PlayerState :=
  { ps with
    link := after, silence := none, seqRef := none, trill := .stopped, trillSeen := false, breath := .quiet,
    note := none, latch := [], latchSeen := false, learn := none,
    active := if ps.waits then ps.selected else ps.active }

/-- What a link that leaves UP does outside the player's record: its note's and its stack's voices are let
go, its learn's reservation is removed, and nothing else is touched (R158, R103). -/
def LeftLink (p : Player) (s t : State) : Prop :=
  (∀ v, t.voice v = unlatchedVoice (s.player p) v (endedVoice (s.player p) v (s.voice v))) ∧
  (∀ n e, t.entry n e =
    if (s.player p).learns n e then { s.entry n e with reservation := none } else s.entry n e) ∧
  SameOthers p s t

/-- `v` is the oldest of the voices that `P` holds of: the greatest age, and the lowest number among equal ages
(R81). -/
def OldestOf (s : State) (P : VoiceId → Prop) (v : VoiceId) : Prop :=
  P v ∧ ∀ w, P w → s.age w < s.age v ∨ s.age w = s.age v ∧ v ≤ w

/-- `v` is of the lowest amplitude among the voices that `P` holds of, and the oldest of those (R90, R92). -/
def QuietestOf (s : State) (P : VoiceId → Prop) (v : VoiceId) : Prop :=
  P v ∧ ∀ w, P w → (s.voice v).amplitude < (s.voice w).amplitude ∨
    (s.voice v).amplitude = (s.voice w).amplitude ∧
      (s.age w < s.age v ∨ s.age w = s.age v ∧ v ≤ w)

/-- A voice of the given state that belongs to the player. -/
def OwnedIn (s : State) (p : Player) (st : VoiceState) (v : VoiceId) : Prop :=
  (s.voice v).state = st ∧ (s.voice v).owner = some p

/-- `v` is the oldest LATCHED voice of p in the lowest entry of p's latch stack that holds one (R90, R92). -/
def LowestLatched (s : State) (p : Player) (v : VoiceId) : Prop :=
  ∃ below e above, (s.player p).latch = below ++ e :: above ∧
    (∀ x ∈ below, ∀ w ∈ x.voices, ¬OwnedIn s p .latched w) ∧
    OldestOf s (fun w => w ∈ e.voices ∧ OwnedIn s p .latched w) v

/-- q has a voice that T3 may take: a LATCHED or a SOUNDING one (R93). -/
def Robbable (s : State) (q : Player) : Prop := ∃ v, OwnedIn s q .latched v ∨ OwnedIn s q .sounding v

/-- The excess of a player: its held count over the smaller of reserve and ceiling (R83, R93). -/
def excessOf (s : State) (q : Player) : Nat := (s.player q).held - min (s.player q).reserve (s.player q).ceiling

/-- q comes before r in T3: a larger excess, or an equal one and the lower number (R93). -/
def RobbedFirst (s : State) (q r : Player) : Prop :=
  excessOf s r < excessOf s q ∨ excessOf s r = excessOf s q ∧ q < r

/-- `v` is the voice that T3 takes for p: of the first player other than p with an excess above 0 that has a
candidate, the oldest LATCHED voice, or where none is LATCHED the oldest SOUNDING one (R93). -/
def RobbedIn (s : State) (p : Player) (v : VoiceId) : Prop :=
  ∃ q, q ≠ p ∧ 0 < excessOf s q ∧
    (∀ r, r ≠ p → 0 < excessOf s r → RobbedFirst s r q → ¬Robbable s r) ∧
    (OldestOf s (OwnedIn s q .latched) v ∨
      (∀ w, ¬OwnedIn s q .latched w) ∧ OldestOf s (OwnedIn s q .sounding) v)

/-- A binding item once the voice has been stolen: the item that was the voice becomes "denied" (R97). -/
def withoutVoice (v : VoiceId) (b : Binding) : Binding :=
  if b.item = .voice v then { layer := b.layer, item := .denied } else b

/-! ### The values of an accepted sense frame -/

/-- The setup in force for a frame: a QUIET or MUTED player takes the frame's selection at once (R21, R23). -/
def frameSetup (ps : PlayerState) (x : SenseFields) : SetupId :=
  match ps.breath with
  | .quiet | .muted => x.setup
  | .pending _ | .breathing => ps.active

/-- The breath state after a frame of net pressure `n` (R7, R8, R9). -/
def breathAfter (st : Setup) (n : Nat) : BreathState → BreathState
  | .quiet => if st.onset ≤ n then .pending 1 else .quiet
  | .pending k => if n < st.onset then .quiet else if 2 ≤ k then .breathing else .pending (k + 1)
  | .breathing => if n < min st.release (st.onset - 1) then .quiet else .breathing
  | .muted => if n < min st.release (st.onset - 1) then .quiet else .muted

/-- The frame confirms a breath onset (R8, R18). -/
def Onset (st : Setup) (n : Nat) (b : BreathState) : Prop :=
  (∃ k, b = .pending k) ∧ breathAfter st n b = .breathing

/-- The trill phase after a frame (R28, R29). -/
def trillAfter (st : Setup) (seen down : Bool) (tr : Trill) : Trill :=
  if down = false then .stopped
  else if seen = false then .on st.trillOn
  else match tr with
    | .stopped => .stopped
    | .on left => if left ≤ 1 then .off st.trillOff else .on (left - 1)
    | .off left => if left ≤ 1 then .on st.trillOn else .off (left - 1)

/-- The settle count after a frame (R25). -/
def settleAfter (ps : PlayerState) (masked : KeySet) : Nat :=
  if masked = ps.candidate then min (ps.settleCount + 1) 15 else 0

/-- The bend of a bite (R40). -/
def bendAfter (st : Setup) (bite : Nat) : Int :=
  if st.biteRest = 0 ∨ st.biteRest ≤ bite then 0
  else -(((st.biteRest - bite : Nat) * st.bendDepth / st.biteRest : Nat) : Int)

/-- The sequence test fails: SEQ_GAP (R156). -/
def seqGapFails (ps : PlayerState) (seq : BitVec 4) : Bool :=
  ps.link = .up && match ps.seqRef with
    | none => false
    | some r => seq ≠ r + 1

/-- The status A of a player after the sequence test of a frame taken while UP (R156). -/
def statusAfterSeq (ps : PlayerState) (seq : BitVec 4) : Byte :=
  if seqGapFails ps seq then ps.statusA ||| 0x08 else ps.statusA

/-- A valid entry matches a key set: on every key of its care set the two agree (R34). -/
def Matches (e : ChartEntry) (keys : KeySet) : Prop :=
  e.valid = true ∧ ∀ k < 24, e.care.getLsbD k = true → keys.getLsbD k = e.pattern.getLsbD k

/-- The result of a frame's lookup once `accepted` is the accepted key set, with the trill set inverted in ON
(R30 to R39). -/
def resolutionOf (s : State) (p : Player) (x : SenseFields) (accepted : KeySet) : Resolution :=
  let ps := s.player p
  let st := s.activeSetup p
  let keys := match trillAfter st ps.trillSeen x.trill ps.trill with
    | .on _ => accepted ^^^ st.trillSet
    | .off _ | .stopped => accepted
  let sum : Option Int := match overrideFor st x.contact with
    | .fixed note => some (note + st.transpose)
    | .shift octaves => (lookupChart s.charts[st.chartSlot] keys).map fun e =>
        st.baseNote + e.offset + 12 * octaves + st.transpose
  match sum with
  | none => .unmatched
  | some n => rangeFit st n

/-- The key set that a frame's keys and the key mask leave (R24). -/
def maskedKeys (s : State) (p : Player) (x : SenseFields) : KeySet := x.keys &&& (s.activeSetup p).keyMask

/-- The result of an onset frame's lookup: the accepted key set is the masked one (R26). -/
def onsetResolution (s : State) (p : Player) (x : SenseFields) : Resolution := resolutionOf s p x (maskedKeys s p x)

/-- The result of the lookup of a frame that is no onset: the masked key set is accepted when it has settled,
else the accepted one stands (R25). -/
def heldResolution (s : State) (p : Player) (x : SenseFields) : Resolution :=
  resolutionOf s p x
    (if (s.activeSetup p).settleWindow ≤ settleAfter (s.player p) (maskedKeys s p x) then maskedKeys s p x
    else (s.player p).accepted)

/-- The number and flag that a matched lookup moves a note to, where its number is another (R85, R88). -/
def movesTo (res : Resolution) (note : Note) : Option (Nat × RangeFlag) :=
  match res with
  | .matched n flag => if n = note.number then none else some (n, flag)
  | .unmatched => none

/-- The entry that the completion of a learn writes at an onset frame (R54, R55). -/
def learnedEntry (s : State) (p : Player) (x : SenseFields) (r : LearnRecord) : ChartEntry :=
  { valid := true, pattern := maskedKeys s p x, care := (s.activeSetup p).keyMask, offset := r.offset,
    learned := true, reservation := none }

/-- The state whose chart holds the entry of a pending learn, written at the onset, before the lookup (R54). -/
def afterLearn (s : State) (p : Player) (x : SenseFields) : State :=
  match (s.player p).learn with
  | none => s
  | some r => s.modEntry r.slot r.entry fun _ => learnedEntry s p x r

/-- What an onset frame reports of a pending learn before its onset: nothing with none pending, else the LEARN_DONE
and the LEARN_RESULT of OK, or of OK_SHADOWED where an entry before it matches (R55, R56). -/
def LearnReports (s : State) (p : Player) (x : SenseFields) (records : List EventRecord) (replies : List Reply) :
    Prop :=
  match (s.player p).learn with
  | none => records = [] ∧ replies = []
  | some r => ∃ result : LearnResult, (result = .ok ∨ result = .okShadowed) ∧
      (result = .okShadowed ↔ ∃ e, e < r.entry ∧ Matches (s.entry r.slot e) (maskedKeys s p x)) ∧
      records = [recordOf s .learnDone 0 r.slot.val (if result = .ok then 0 else 1) r.entry.val] ∧
      replies = [.learnResult r.slot.val result r.entry.val]

/-- A SOUNDING voice of a note that goes on, after a frame's pitch update: one glide step toward `goal`, the frame's
bend and the increment of its pitch (R120, R121, R126). -/
def followedVoice (tuning bend : Int) (goal : Nat) (vo : Voice) : Voice :=
  let glide :=
    if vo.copies.glideStep = 0 then goal
    else if vo.glideCurrent < goal then min (vo.glideCurrent + vo.copies.glideStep) goal
    else max (vo.glideCurrent - vo.copies.glideStep) goal
  { vo with
    glideCurrent := glide, glideTarget := goal, bend := bend
    increment := incrementOf
      (max 0 (min 12799 ((glide : Int) + 100 * vo.copies.interval + vo.copies.detune + bend + tuning))).toNat }

/-- A voice as a grant or a hand-over sets it up for a player's note (R91, R99, R123, R120). -/
def freshVoice (s : State) (p : Player) (st : Setup) (number : Nat) (bend : Int) (tag : BitVec 8) (l : LayerId)
    (stamp : BitVec 16) : Voice :=
  let c := copiesOf st l
  { state := .sounding, use := some { owner := p, bus := p, tag := tag, layer := l }, stamp := stamp,
    copies := c, glideCurrent := 100 * number, glideTarget := 100 * number, bend := bend,
    increment := incrementOf
      (max 0 (min 12799 (100 * (number : Int) + 100 * c.interval + c.detune + bend + s.tuning))).toNat,
    phase := 0, amplitude := 0, target := 0, morph := 0, claim := none, endReported := false }

/-- A SOUNDING voice of the current note once it has the frame's breath level: its target and its morph (R17). -/
def handedVoice (level : Nat) (vo : Voice) : Voice :=
  { vo with
    target := level * vo.copies.gain / 2
    morph := if vo.copies.morphEnable then level / 4 else 0 }

/-! ### The values of a sample period -/

/-- What one sample period makes of a voice that is not FREE: the amplitude moves by the step of R136, the
phase by the increment (R139), and a FADING or RELEASING voice at amplitude 0 is reported (R140). -/
def RenderedAs (vo w : Voice) : Prop :=
  w = { vo with
    amplitude := w.amplitude, phase := vo.phase + BitVec.ofNat 32 vo.increment,
    endReported := vo.endReported ||
      ((vo.state = .fading || vo.state = .releasing) && w.amplitude = 0) } ∧
  (vo.state = .sounding → vo.amplitude < vo.target →
    w.amplitude = min (vo.amplitude + vo.copies.riseStep) vo.target) ∧
  (vo.state = .sounding → vo.target < vo.amplitude →
    w.amplitude = max (vo.amplitude - vo.copies.fallStep) vo.target) ∧
  (vo.state = .releasing → vo.target ≤ vo.amplitude →
    w.amplitude = max (vo.amplitude - vo.copies.releaseStep) vo.target) ∧
  (vo.state = .fading → vo.target ≤ vo.amplitude → w.amplitude = max (vo.amplitude - 1024) vo.target) ∧
  (vo.state = .latched ∨ vo.amplitude = vo.target → w.amplitude = vo.amplitude)

/-- The sum of a part over the 64 voices, scaled by a gain and rounded toward minus infinity (R145, R147). -/
def scaledSum (s : State) (gain : Nat) (part : Voice → Int) : Int := (∑ v, part (s.voice v)) * gain / 256

/-- A value saturated to the signed 24-bit range (R147). -/
def saturated (x : Int) : Int := max (-8388608) (min 8388607 x)

/-- The saturation moves a value (R147). -/
def Overflows (x : Int) : Prop := x < -8388608 ∨ 8388607 < x

/-- `x` lies between `a` and `b`, both included. -/
def Between (x a b : Int) : Prop := min a b ≤ x ∧ x ≤ max a b

/-! ### Commands that find no event -/

/-- The command answers a state in which only the interrupt line can have moved. -/
def ChangesNothing (c : Instr) (s : State) : Prop :=
  ∃ t, exec c s = .next t ∧ t = { s with pulse := t.pulse, irqHigh := t.irqHigh }

/-- Entry `e` of a chart. -/
def chartEntry (chart : Chart) (e : EntryId) : ChartEntry := chart[e]

/-! ### The accepted sense frame -/

/-- What an accepted sense frame leaves in the records of its player's front end, resolver and receiver, and
what it leaves alone (R1, R20, R155). -/
structure FrameRecords (s : State) (p : Player) (f : FrameBody) (t : State) : Prop where
  frame : t = { s with
    voices := t.voices, freeQueue := t.freeQueue, stampCounter := t.stampCounter, players := t.players,
    charts := t.charts, pulse := t.pulse, irqHigh := t.irqHigh }
  others : ∀ q, q ≠ p → RobbedOnly (s.player q) (t.player q)
  /-- R155, R156, R157, R163. -/
  receiver : (t.player p).link = .up ∧ (t.player p).silence = some 0 ∧ (t.player p).seqRef = some f.seq ∧
    (t.player p).received = none ∧
    (t.player p).slot = (if (senseFields f).replyOk then .opened f.seq else (s.player p).slot)
  /-- R5, R8, R9, R16. -/
  breath : (t.player p).zeroOffset = (if (s.player p).capturePending then (senseFields f).breath.toNat
      else (s.player p).zeroOffset) ∧
    (t.player p).capturePending = false ∧
    (t.player p).breath = breathAfter (s.setup (frameSetup (s.player p) (senseFields f)))
      ((senseFields f).breath.toNat - (t.player p).zeroOffset) (s.player p).breath ∧
    (t.player p).level = smooth (s.setup (frameSetup (s.player p) (senseFields f))).smoothing
      (s.player p).level
      (curveLevel s.curves[(s.setup (frameSetup (s.player p) (senseFields f))).curve]
        ((senseFields f).breath.toNat - (t.player p).zeroOffset))
  /-- R24 to R29, R40. -/
  resolver : (t.player p).candidate =
      (senseFields f).keys &&& (s.setup (frameSetup (s.player p) (senseFields f))).keyMask ∧
    (t.player p).settleCount = settleAfter (s.player p) (t.player p).candidate ∧
    (Onset (s.setup (frameSetup (s.player p) (senseFields f)))
        ((senseFields f).breath.toNat - (t.player p).zeroOffset) (s.player p).breath ∨
      (s.setup (frameSetup (s.player p) (senseFields f))).settleWindow ≤ (t.player p).settleCount →
      (t.player p).accepted = (t.player p).candidate) ∧
    (¬Onset (s.setup (frameSetup (s.player p) (senseFields f)))
        ((senseFields f).breath.toNat - (t.player p).zeroOffset) (s.player p).breath →
      (t.player p).settleCount < (s.setup (frameSetup (s.player p) (senseFields f))).settleWindow →
      (t.player p).accepted = (s.player p).accepted) ∧
    (t.player p).trill = trillAfter (s.setup (frameSetup (s.player p) (senseFields f)))
      (s.player p).trillSeen (senseFields f).trill (s.player p).trill ∧
    (t.player p).trillSeen = (senseFields f).trill ∧
    (t.player p).bend = bendAfter (s.setup (frameSetup (s.player p) (senseFields f)))
      (senseFields f).bite.toNat
  /-- R21, R22, R108. -/
  selection : (t.player p).selected = (senseFields f).setup ∧
    ((t.player p).breath = .quiet ∨ (s.player p).breath = .quiet ∨ (s.player p).breath = .muted →
      (t.player p).active = (senseFields f).setup) ∧
    ((t.player p).breath ≠ .quiet → (s.player p).breath ≠ .quiet → (s.player p).breath ≠ .muted →
      (t.player p).active = (s.player p).active) ∧
    (t.player p).latchSeen = (senseFields f).latch
  /-- Of status A the SEQ_GAP flag is set as R156 says, the two overflow flags may be set, and the rest is kept. -/
  gap : ∃ m, (t.player p).statusA = statusAfterSeq (s.player p) f.seq ||| m ∧ m &&& 0x3F = 0
  kept : (t.player p).enabled = (s.player p).enabled ∧
    (t.player p).configuredRate = (s.player p).configuredRate ∧
    (t.player p).workingRate = (s.player p).workingRate ∧ (t.player p).assembly = (s.player p).assembly ∧
    (t.player p).keyCount = (s.player p).keyCount ∧ (t.player p).reserve = (s.player p).reserve ∧
    (t.player p).ceiling = (s.player p).ceiling ∧ (t.player p).threshold = (s.player p).threshold ∧
    (t.player p).maskA = (s.player p).maskA ∧ (t.player p).maskB = (s.player p).maskB ∧
    (t.player p).window = (s.player p).window ∧ (t.player p).restarted = (s.player p).restarted
  /-- Only the entry that a pending learn of the player names can change (R54, R58). -/
  charts : ∀ n e, (s.player p).learns n e = false → t.entry n e = s.entry n e

/-- The breath state after a frame, by the setup in force for it (R7 to R9, R21). -/
def frameBreath (s : State) (p : Player) (f : FrameBody) : BreathState :=
  breathAfter (s.setup (frameSetup (s.player p) (senseFields f)))
    ((s.player p).netPressure (senseFields f).breath.toNat) (s.player p).breath

/-- An accepted SENSE frame of an UP link (R155). -/
structure AcceptedFrame (s : State) (p : Player) (f : FrameBody) : Prop where
  up : (s.player p).link = .up
  stands : frameStands s p { kind := .sense, body := f } = true

/-- The frame's latch button goes down (R108). -/
def pressed (s : State) (p : Player) (f : FrameBody) : Bool := (senseFields f).latch && !(s.player p).latchSeen

/-- The frame leaves a BREATHING player BREATHING (R9). -/
def GoesOn (s : State) (p : Player) (f : FrameBody) : Prop :=
  (s.player p).breath = .breathing ∧
  min (s.activeSetup p).release ((s.activeSetup p).onset - 1) ≤
    (s.player p).netPressure (senseFields f).breath.toNat

/-- The frame confirms the onset of a PENDING player (R8). -/
def Confirms (s : State) (p : Player) (f : FrameBody) : Prop :=
  (s.player p).breath = .pending 2 ∧
  (s.activeSetup p).onset ≤ (s.player p).netPressure (senseFields f).breath.toNat

/-- The frame ends the breath of a BREATHING player (R9). -/
def Releases (s : State) (p : Player) (f : FrameBody) : Prop :=
  (s.player p).breath = .breathing ∧
  (s.player p).netPressure (senseFields f).breath.toNat <
    min (s.activeSetup p).release ((s.activeSetup p).onset - 1)

/-- A SENSE frame of an UP or a LOST link that finds no note and does not leave the player BREATHING (R85, last row). -/
structure StaysSilent (s : State) (p : Player) (f : FrameBody) : Prop where
  linked : (s.player p).link = .up ∨ (s.player p).link = .lost
  stands : frameStands s p { kind := .sense, body := f } = true
  note : (s.player p).note = none
  after : frameBreath s p f ≠ .breathing

/-- Each enabled layer of the active setup finds a voice in the free queue below the ceiling (R91). -/
structure PoolSuffices (s : State) (p : Player) : Prop where
  nodup : s.freeQueue.Nodup
  voices : (enabledLayers (s.activeSetup p)).length ≤ s.freeQueue.length
  ceiling : (s.player p).held + (enabledLayers (s.activeSetup p)).length ≤ (s.player p).ceiling

/-- The frame's selection becomes the active setup at its start, in QUIET and MUTED (R21). -/
def changesAtStart (s : State) (p : Player) (f : FrameBody) : Bool :=
  (s.player p).active ≠ (senseFields f).setup && ((s.player p).breath = .quiet || (s.player p).breath = .muted)

/-- The frame's selection becomes the active setup at its end, where it takes PENDING or BREATHING to QUIET (R22). -/
def changesAtEnd (s : State) (p : Player) (f : FrameBody) : Bool :=
  (s.player p).active ≠ (senseFields f).setup &&
    !((s.player p).breath = .quiet || (s.player p).breath = .muted) && frameBreath s p f = .quiet

/-- The records of a change of the active setup on a frame: SETUP_APPLIED, then the LEARN_ENDED of the learn that the
change cancels (R21, R58; that order is deduced, log 12). -/
def changeRecords (s : State) (p : Player) (f : FrameBody) : List EventRecord :=
  [recordOf s .setupApplied 0 0 0 (senseFields f).setup.val] ++ learnEndedRecords s p 6

/-- The records of a frame with no note decision, in order: LINK_UP RECOVERED where the link was LOST (R157), a change
of setup at the start, the LATCH_CLEAR of a press that clears the stack (R112), a change of setup at the end. -/
def silentRecords (s : State) (p : Player) (f : FrameBody) (cleared : Bool) : List EventRecord :=
  (if (s.player p).link = .lost then [recordOf s .linkUp 0 (s.player p).keyCount 0 2] else [])
  ++ (if changesAtStart s p f then changeRecords s p f else [])
  ++ (if cleared then latchClearRecords s p 1 else [])
  ++ (if changesAtEnd s p f then changeRecords s p f else [])

/-- The replies that a change of the active setup on the frame places (R58). -/
def changeReplies (s : State) (p : Player) (f : FrameBody) : List Reply :=
  if changesAtStart s p f || changesAtEnd s p f then cancelledReplies s p else []

/-- A pending learn of p stands through a frame that does not change the active setup; a change cancels it: the record
and the reservation go, and no other chart entry changes (R21, R58). -/
def LearnFollows (s : State) (p : Player) (f : FrameBody) (t : State) : Prop :=
  if changesAtStart s p f || changesAtEnd s p f then
    (t.player p).learn = none ∧
    ∀ n e, t.entry n e = if (s.player p).learns n e then { s.entry n e with reservation := none } else s.entry n e
  else (t.player p).learn = (s.player p).learn ∧ t.charts = s.charts

/-- What a frame adds to its player's queues, in order, with the flags of what is refused; DENIED is left alone
(R156, R162, R177, R180). -/
structure Tells (s : State) (p : Player) (f : FrameBody) (records : List EventRecord) (replies : List Reply)
    (t : State) : Prop where
  queue : (t.player p).events = ((s.player p).queuedAll records).events
  waiting : (t.player p).replies = ((s.player p).placedAll replies).replies
  flags : (t.player p).statusA =
    (({ s.player p with statusA := statusAfterSeq (s.player p) f.seq }.queuedAll records).placedAll replies).statusA
  denied : (t.player p).denied = (s.player p).denied

/-- What an onset leaves where each enabled layer finds a free voice, once the level has been handed off; `before` and
`replies` are what the frame reports of a learn before the NOTE_ON (R86, R87, R91, R17). -/
structure OnsetTaken (s : State) (p : Player) (f : FrameBody) (n : Nat) (flag : RangeFlag)
    (before : List EventRecord) (replies : List Reply) (t : State) : Prop where
  note : (t.player p).note = some {
    tag := (s.player p).tagCounter + 1, number := n, flag := flag, setup := (s.player p).active,
    binding := List.zipWith (fun l v => { layer := l, item := .voice v }) (enabledLayers (s.activeSetup p))
      s.freeQueue }
  tag : (t.player p).tagCounter = (s.player p).tagCounter + 1
  held : (t.player p).held = (s.player p).held + (enabledLayers (s.activeSetup p)).length
  queue : t.freeQueue = s.freeQueue.drop (enabledLayers (s.activeSetup p)).length
  voices : ∀ i (h : i < (enabledLayers (s.activeSetup p)).length) (h' : i < s.freeQueue.length),
    t.voice s.freeQueue[i] = handedVoice (t.player p).level
      (freshVoice s p (s.activeSetup p) n (t.player p).bend ((s.player p).tagCounter + 1)
        (enabledLayers (s.activeSetup p))[i] (s.stampCounter + BitVec.ofNat 16 (i + 1)))
  stamps : t.stampCounter = s.stampCounter + BitVec.ofNat 16 (enabledLayers (s.activeSetup p)).length
  rest : ∀ v, v ∉ s.freeQueue.take (enabledLayers (s.activeSetup p)).length → t.voice v = s.voice v
  told : Tells s p f (before ++
    [recordOf s .noteOn ((s.player p).tagCounter + 1) n flag.byte
      (enabledLayers (s.activeSetup p)).length]) replies t
  others : SameOthers p s t
  latch : (t.player p).latch = (s.player p).latch

/-- A frame whose decision is none, with no current note: note and pool are as they were, but for the stack that a
press clears, and the frame reports `records` and `replies` alone (R85, R112). -/
structure NoneDecided (s : State) (p : Player) (f : FrameBody) (cleared : Bool) (records : List EventRecord)
    (replies : List Reply) (t : State) : Prop where
  note : (t.player p).note = none ∧ (t.player p).tagCounter = (s.player p).tagCounter
  held : (t.player p).held = (s.player p).held
  latch : (t.player p).latch = if cleared then [] else (s.player p).latch
  voices : ∀ v, t.voice v = if cleared then unlatchedVoice (s.player p) v (s.voice v) else s.voice v
  pool : t.freeQueue = s.freeQueue ∧ t.stampCounter = s.stampCounter
  told : Tells s p f records replies t
  others : SameOthers p s t

/-- A frame that ends the current note: its SOUNDING voices are released, its claims cleared, nothing else in the
pool changes, but for the stack that a press clears, and the frame reports `records` and `replies` (R89, R112). -/
structure NoteEnded (s : State) (p : Player) (f : FrameBody) (cleared : Bool) (records : List EventRecord)
    (replies : List Reply) (t : State) : Prop where
  note : (t.player p).note = none ∧ (t.player p).tagCounter = (s.player p).tagCounter
  held : (t.player p).held = (s.player p).held
  latch : (t.player p).latch = if cleared then [] else (s.player p).latch
  voices : ∀ v, t.voice v =
    if cleared then unlatchedVoice (s.player p) v (endedVoice (s.player p) v (s.voice v))
    else endedVoice (s.player p) v (s.voice v)
  pool : t.freeQueue = s.freeQueue ∧ t.stampCounter = s.stampCounter
  told : Tells s p f records replies t
  others : SameOthers p s t

/-- The note after a frame on which it goes on, moved to another number or not (R85, R88). -/
def movedNote (note : Note) (moved : Option (Nat × RangeFlag)) : Note :=
  { note with number := (moved.map Prod.fst).getD note.number, flag := (moved.map Prod.snd).getD note.flag }

/-- The NOTE_CHANGE of a note that moves (R88). -/
def changeOf (s : State) (note : Note) (moved : Option (Nat × RangeFlag)) : List EventRecord :=
  (moved.map fun m => recordOf s .noteChange note.tag m.1 m.2.byte 0).toList

/-- A frame on which the current note goes on, moved to another number or not: its SOUNDING voices follow, and
nothing else in the pool changes (R88, R17, R121, R122). -/
structure NoteFollowed (s : State) (p : Player) (f : FrameBody) (note : Note) (moved : Option (Nat × RangeFlag))
    (t : State) : Prop where
  current : (t.player p).note = some (movedNote note moved)
  held : (t.player p).held = (s.player p).held ∧ (t.player p).latch = (s.player p).latch ∧
    (t.player p).tagCounter = (s.player p).tagCounter
  voices : ∀ v, t.voice v =
    if v ∈ (s.player p).boundList ∧ (s.voice v).state = .sounding then
      handedVoice (t.player p).level
        (followedVoice s.tuning (t.player p).bend ((moved.map fun m => 100 * m.1).getD (s.voice v).glideTarget)
          (s.voice v))
    else s.voice v
  pool : t.freeQueue = s.freeQueue ∧ t.stampCounter = s.stampCounter
  told : Tells s p f (changeOf s note moved) [] t
  others : SameOthers p s t

/-- The record of a PENDING or BREATHING player of an UP link as the note decision of an accepted frame finds it: the
link receiver, the breath front end and the resolver have taken the frame (R1, R5 to R9, R15, R16, R20 to R29, R40,
R155, R156). -/
def heardRecord (s : State) (p : Player) (f : FrameBody) : PlayerState :=
  let ps := s.player p
  let x := senseFields f
  let st := s.activeSetup p
  let net := ps.netPressure x.breath.toNat
  let keys := maskedKeys s p x
  { ps with
    received := none, silence := some 0, seqRef := some f.seq, statusA := statusAfterSeq ps f.seq,
    zeroOffset := if ps.capturePending then x.breath.toNat else ps.zeroOffset, capturePending := false,
    breath := breathAfter st net ps.breath,
    level := smooth st.smoothing ps.level (curveLevel s.curves[st.curve] net),
    candidate := keys, settleCount := settleAfter ps keys,
    accepted :=
      if ps.breath ≠ .breathing ∧ breathAfter st net ps.breath = .breathing ∨
        st.settleWindow ≤ settleAfter ps keys then keys
      else ps.accepted,
    trill := trillAfter st ps.trillSeen x.trill ps.trill, trillSeen := x.trill,
    bend := bendAfter st x.bite.toNat, selected := x.setup, latchSeen := x.latch }

/-- The part as the note decision of such a frame finds it. -/
def heardState (s : State) (p : Player) (f : FrameBody) : State := s.modPlayer p fun _ => heardRecord s p f

/-- The part as the onset decision of a confirming frame finds it: a pending learn is complete and reported (R54). -/
def onsetState (s : State) (p : Player) (f : FrameBody) (records : List EventRecord) (replies : List Reply) : State :=
  (afterLearn s p (senseFields f)).modPlayer p fun _ =>
    ({ heardRecord s p f with learn := none }.queuedAll records).placedAll replies

/-- The part as a press finds the note of a frame that has followed or moved it: the change has been queued, and the
SOUNDING voices have their pitch and not yet the level (R108, R121). -/
def FollowedToPress (s : State) (p : Player) (f : FrameBody) (note : Note) (moved : Option (Nat × RangeFlag))
    (u : State) : Prop :=
  u = { s with voices := u.voices, players := u.players } ∧ SameOthers p s u ∧
  u.player p = { heardRecord s p f with note := some (movedNote note moved) }.queuedAll (changeOf s note moved) ∧
  ∀ v, u.voice v =
    if v ∈ (s.player p).boundList ∧ (s.voice v).state = .sounding then
      followedVoice s.tuning (u.player p).bend ((moved.map fun m => 100 * m.1).getD (s.voice v).glideTarget)
        (s.voice v)
    else s.voice v

/-- `t` is `w` once the level has been handed to the SOUNDING voices of p's note and REPLY_OK has opened the reply slot
(R17, R163). -/
def HandedOff (p : Player) (f : FrameBody) (w t : State) : Prop :=
  t = { w with voices := t.voices, players := t.players, pulse := t.pulse, irqHigh := t.irqHigh } ∧
  (∀ v, t.voice v =
    if v ∈ (w.player p).boundList ∧ (w.voice v).state = .sounding then handedVoice (w.player p).level (w.voice v)
    else w.voice v) ∧
  t.player p = { w.player p with
    slot := if (senseFields f).replyOk then .opened f.seq else (w.player p).slot } ∧
  SameOthers p w t

/-! ### Replies -/

/-- The tuning indicator's code for an offset sum, by its distance to the nearest whole note: 1 FLAT, 0 CENTRED,
2 SHARP; half a note counts as flat (R166, R184). -/
def Indicates (code : Nat) (sum : Int) : Prop :=
  ∃ k : Int, -50 ≤ sum - 100 * k ∧ sum - 100 * k ≤ 49 ∧
    code = if sum - 100 * k < -5 then 1 else if 5 < sum - 100 * k then 2 else 0

/-- The six characters of a reply frame: the header with kind and echoed sequence number, four data characters,
and the check, their sum modulo 128 (R165, R184). -/
def ReplyFrame (kind : Nat) (seq : BitVec 4) (note tuning flags value : Nat) (chars : List Byte) : Prop :=
  ∃ h n t f v c : Byte, chars = [h, n, t, f, v, c] ∧ h.toNat = 128 + 32 * kind + seq.toNat ∧
    n = BitVec.ofNat 8 note ∧ t = BitVec.ofNat 8 tuning ∧ f = BitVec.ofNat 8 flags ∧ v = BitVec.ofNat 8 value ∧
    c.toNat = (h.toNat + n.toNat + t.toNat + f.toNat + v.toNat) % 128

/-- The kind and the four contents of a queued reply (R167, R184). -/
def Reply.fields : Reply → Nat × Nat × Nat × Nat × Nat
  | .denied note layer => (1, note, layer.val, 1, 0)
  | .taken note layer v => (1, note, layer.val, 2, v.val)
  | .latchDropped note => (1, note, 0, 3, 0)
  | .learnResult slot result entry => (2, slot, 0, result.code, entry)

/-- What an emptied frame in assembly of nine characters and a check gives: the fields of the characters (R154). -/
def bodyFrom (a : List Byte) : FrameBody :=
  let c (i : Nat) : BitVec 7 := (a.getD i 0).setWidth 7
  { seq := (a.getD 0 0).setWidth 4, c1 := c 1, c2 := c 2, c3 := c 3, c4 := c 4, c5 := c 5, c6 := c 6,
    c7 := c 7, c8 := c 8 }

/-! ### Links that leave UP for the desk's sake -/

/-- A player's record when the desk disables its link: from UP with the effects of R158 steps 2 and 4 to 7,
the LEARN_RESULT of a cancelled learn placed (R160). -/
def disabledRecord (s : State) (p : Player) : PlayerState :=
  let ps := s.player p
  let off := { ps with enabled := false, link := .down, assembly := [], received := none, slot := .idle }
  if ps.link = .up then
    let base := (off.left .down).queuedAll (leaveRecords s p 2)
    match ps.learn with
    | none => base
    | some r => base.placed (.learnResult r.slot.val .cancelled r.entry.val)
  else off

/-- A player's record after a link reset (R161, R149, R19, R4). -/
def linkResetRecord (s : State) (p : Player) : PlayerState :=
  let ps := s.player p
  let base := { ps with
    slot := .idle, workingRate := ps.configuredRate, assembly := [], restarted := true,
    received := none, seqRef := none, silence := none, keyCount := 0, replies := [], link := .down,
    candidate := 0, settleCount := 0, accepted := 0, trill := .stopped, trillSeen := false, bend := 0,
    capturePending := false, latchSeen := false }
  if ps.link = .up then (base.left .down).queuedAll (leaveRecords s p 3) else base

/-! ### The event window and the desk's reads -/

/-- A player's record once a window read has removed the head record (R179). -/
def PlayerState.popped (ps : PlayerState) : PlayerState :=
  { ps with window := ps.events.head?, events := ps.events.tail }

/-- The ten bytes of the read buffer; zeros where it is empty (R179). -/
def PlayerState.windowByte (ps : PlayerState) (k : Nat) : Byte :=
  match ps.window with
  | none => 0
  | some e => e.bytes.getD k 0

/-- The transaction began with no byte held and none captured, no data byte yet, and 0 on the port (R47, R169,
R171). -/
def opened (op : DeskOp) (addr : Half) : Transaction :=
  { op := op, addr := addr, count := 0, hold := Vector.replicate _ none, captured := none, out := 0 }

/-- The low and the high byte of a number. -/
def lowOf (n : Nat) : Byte := BitVec.ofNat 8 n
def highOf (n : Nat) : Byte := BitVec.ofNat 8 (n / 256)

/-- The eight keys of a key set from key 8 i on (R70). -/
def keysFrom (k : KeySet) (i : Nat) : Byte := BitVec.ofNat 8 (k.toNat / 256 ^ i)

/-- The bytes of the control and status area by offset, but for the global status (R172, R186). -/
def controlRows (s : State) : List (Nat × Byte) :=
  [(0x00, (0xA7 : Byte)), (0x01, 0x40), (0x02, 0x04), (0x03, 0x01)]
  ++ [(0x09, if s.intMode = .edge then (1 : Byte) else 0)]
  ++ [(0x0A, if s.intPolarity = .activeHigh then (1 : Byte) else 0)]
  ++ [(0x0B, BitVec.ofInt 8 s.tuning), (0x0C, lowOf s.masterGain), (0x0D, highOf s.masterGain)]
  ++ (List.finRange 4).flatMap (fun p =>
    [(0x0E + 2 * p.val, lowOf s.directGains[p]), (0x0F + 2 * p.val, highOf s.directGains[p])])
  ++ [(0x19, s.globalMask)]

/-- The bytes of a player area by offset, but for the breath level and the status bytes (R175, R186). -/
def areaRows (ps : PlayerState) : List (Nat × Byte) :=
  let rate (r : Rate) : Byte := if r = .r1000 then 2 else if r = .r500 then 1 else 0
  [(0x00, if ps.enabled then (1 : Byte) else 0), (0x01, rate ps.configuredRate), (0x02, lowOf ps.reserve)]
  ++ [(0x03, lowOf ps.ceiling), (0x04, lowOf ps.zeroOffset), (0x05, highOf ps.zeroOffset)]
  ++ [(0x06, lowOf ps.threshold), (0x08, ps.maskA), (0x09, ps.maskB)]
  ++ [(0x10, if ps.link = .lost then (2 : Byte) else if ps.link = .up then 1 else 0)]
  ++ [(0x11, rate ps.workingRate)]
  ++ [(0x12, lowOf ps.keyCount), (0x13, if ps.capturePending then 1 else 0)]
  ++ [(0x14, match ps.breath with
    | .quiet => (0 : Byte)
    | .pending _ => 1
    | .breathing => 2
    | .muted => 3)]
  ++ [(0x18, lowOf ps.held), (0x19, lowOf ps.latch.length)]
  ++ [(0x1A, (ps.note.map fun n => lowOf n.number).getD 0xFF), (0x1B, lowOf ps.events.length)]

/-- The bytes of layer l of a setup by offset (R66, R187). -/
def layerRows (l : LayerId) (y : Layer) : List (Nat × Byte) :=
  List.zip ((List.range 8).map fun i => 0x40 + 8 * l.val + i)
    [if y.enable then (1 : Byte) else 0, BitVec.ofInt 8 y.interval, BitVec.ofInt 8 y.detune, lowOf y.waveA.val,
     lowOf y.waveB.val, if y.morphEnable then 1 else 0, lowOf y.gain, lowOf y.pan]

/-- The two bytes of an override entry at offset k: its value, then its kind (R69, R187). -/
def overrideRows (k : Nat) : Override → List (Nat × Byte)
  | .shift v => [(k, BitVec.ofInt 8 v), (k + 1, 0)]
  | .fixed n => [(k, lowOf n), (k + 1, 1)]

/-- The bytes of a setup by offset (R63 to R66, R70, R187). -/
def setupRows (st : Setup) : List (Nat × Byte) :=
  [(0x00, lowOf st.chartSlot.val)]
  ++ [(0x01, keysFrom st.keyMask 0), (0x02, keysFrom st.keyMask 1), (0x03, keysFrom st.keyMask 2)]
  ++ [(0x04, keysFrom st.trillSet 0), (0x05, keysFrom st.trillSet 1), (0x06, keysFrom st.trillSet 2)]
  ++ [(0x07, lowOf st.trillOn), (0x08, lowOf st.trillOff), (0x09, lowOf st.settleWindow)]
  ++ [(0x0A, if st.policy = .silent then (1 : Byte) else 0), (0x0B, lowOf st.baseNote)]
  ++ [(0x0C, BitVec.ofInt 8 st.transpose), (0x0D, lowOf st.rangeLow), (0x0E, lowOf st.rangeHigh)]
  ++ overrideRows 0x10 st.override1 ++ overrideRows 0x12 st.override2 ++ overrideRows 0x14 st.override3
  ++ [(0x16, lowOf st.curve.val), (0x17, lowOf st.smoothing)]
  ++ [(0x18, lowOf st.onset), (0x19, highOf st.onset), (0x1A, lowOf st.release), (0x1B, highOf st.release)]
  ++ [(0x1C, lowOf st.biteRest), (0x1D, lowOf st.bendDepth), (0x1E, lowOf st.glideStep)]
  ++ [(0x20, lowOf st.riseStep), (0x21, highOf st.riseStep), (0x22, lowOf st.fallStep)]
  ++ [(0x23, highOf st.fallStep), (0x24, lowOf st.releaseStep), (0x25, highOf st.releaseStep)]
  ++ (List.finRange 4).flatMap fun l => layerRows l st.layers[l]

/-- The eight bytes of a chart entry (R49, R187). -/
def entryRows (e : ChartEntry) : List Byte :=
  [keysFrom e.pattern 0, keysFrom e.pattern 1, keysFrom e.pattern 2]
  ++ [keysFrom e.care 0, keysFrom e.care 1, keysFrom e.care 2, BitVec.ofInt 8 e.offset]
  ++ [lowOf ((if e.valid then 1 else 0) + (if e.learned then 2 else 0)
    + (e.reservation.map fun p => 4 + 8 * p.val).getD 0)]

/-- The byte a read returns at an address where a read has no effect: 0 where no field stands (R14, R49, R71,
R143, R170, R186, R187). -/
def plainRead (s : State) (a : Half) : Byte :=
  match placeOf a with
  | .control off => ((controlRows s).lookup off).getD 0
  | .area p off => ((areaRows (s.player p)).lookup off).getD 0
  | .setup n off => ((setupRows (s.setup n)).lookup off).getD 0
  | .curve n off =>
    if off < 34 then BitVec.ofNat 8 (s.curves[n].toList.getD (off / 2) 0 / 256 ^ (off % 2)) else 0
  | .chart n e b => (entryRows (s.entry n e)).getD b.val 0
  | .wave _ _ => Memory.read s.waves a.toNat
  | .window _ | .unmapped => 0

/-- Status B: DENIED in bit 0, EVQ_LEVEL in bit 1, EVQ_FULL in bit 2 (R178, R186). -/
def statusBRead (ps : PlayerState) : Byte :=
  lowOf ((if ps.denied then 1 else 0) + (if 2 * ps.threshold + 1 < ps.events.length then 2 else 0)
    + (if ps.events.length = 32 then 4 else 0))

/-- In a read transaction whose record is `x`, the byte at its address has been taken and is driven out: what
that returns and what it changes (R169 to R171, R179, R180). The bytes returned so far are the command's. -/
def ByteTaken (s : State) (x : Transaction) (t : State) : Prop :=
  let plain (out : Byte) : Prop :=
    t = { s with txn := some { x with out := out }, miso := t.miso, pulse := t.pulse, irqHigh := t.irqHigh }
  let ofPlayer (p : Player) (out : Byte) (ps : PlayerState) : Prop :=
    t = { s with
      players := t.players, txn := some { x with out := out }, miso := t.miso, pulse := t.pulse,
      irqHigh := t.irqHigh } ∧
    t.player p = ps ∧ SameOthers p s t
  match placeOf x.addr with
  | .window p =>
    if x.count = 0 then ofPlayer p (lowOf (s.player p).events.length) (s.player p).popped
    else plain (if x.count ≤ 10 then (s.player p).windowByte (x.count - 1) else 0)
  | .area p off =>
    let ps := s.player p
    if off = 0x1C then
      ofPlayer p ps.statusA { ps with statusA := if ps.link = .lost then ps.statusA &&& 0x20 else 0 }
    else if off = 0x1D then ofPlayer p (statusBRead ps) { ps with denied := false }
    else if off = 0x16 then
      t = { s with
        txn := some { x with out := lowOf ps.level, captured := some (highOf ps.level) }, miso := t.miso,
        pulse := t.pulse, irqHigh := t.irqHigh }
    else if off = 0x17 then plain (x.captured.getD (highOf ps.level))
    else plain (plainRead s x.addr)
  | .control off =>
    if off = 0x18 then
      t = { s with
        clipMain := false, clipDirect := false, miso := t.miso, pulse := t.pulse, irqHigh := t.irqHigh,
        txn := some { x with
          out := lowOf ((if s.clipMain then 1 else 0) + (if s.clipDirect then 2 else 0)) } }
    else plain (plainRead s x.addr)
  | _ => plain (plainRead s x.addr)

/-- The desk has clocked out the byte on the port, and the next one has been taken as it ended (R169, R170). -/
def ReadClocked (s : State) (x : Transaction) (t : State) : Prop :=
  t.miso = s.miso ++ [x.out] ∧ ByteTaken s { x with addr := nextAddress x.addr, count := x.count + 1 } t

/-- The chart entry a write of the flags byte stores, from the held bytes and the stored ones (R47). -/
def EntryStored (hold : Vector (Option Byte) 7) (flags : Byte) (old new : ChartEntry) : Prop :=
  let byte (b : Fin 7) : Byte := hold[b].getD (old.byte b)
  new.valid = flags.getLsbD 0 ∧ new.pattern = byte 2 ++ byte 1 ++ byte 0 ∧
  new.care = byte 5 ++ byte 4 ++ byte 3 ∧ new.offset = max (-24) (min 48 (byte 6).toInt) ∧
  new.learned = false ∧ new.reservation = none

/-- A player's record where the desk rewrites the entry its learn holds: PREEMPTED (R57). -/
def preemptedRecord (s : State) (p : Player) : PlayerState :=
  match (s.player p).learn with
  | none => s.player p
  | some r =>
    (({ s.player p with learn := none }).queued
      (recordOf s .learnEnded 0 r.slot.val 5 r.entry.val)).placed
      (.learnResult r.slot.val .preempted r.entry.val)

/-! ### Power-on (the power-on columns) -/

/-- A voice record with the values of power-on and soft reset (R78, R118). -/
structure VoiceCleared (vo : Voice) : Prop where
  state : vo.state = .free
  use : vo.use = none
  stamp : vo.stamp = 0
  copies : vo.copies = copiesOf defaultSetup 0
  glide : vo.glideCurrent = 0 ∧ vo.glideTarget = 0
  bend : vo.bend = 0
  increment : vo.increment = 0
  phase : vo.phase = 0
  amplitude : vo.amplitude = 0 ∧ vo.target = 0
  morph : vo.morph = 0
  claim : vo.claim = none

/-- The values the spec gives a player's record at power-on (R2, R19, R51, R82 to R84, R107, R149, R175,
R176, R180). -/
structure PlayerPoweredOn (ps : PlayerState) : Prop where
  breath : ps.zeroOffset = 0 ∧ ps.capturePending = false ∧ ps.breath = .quiet ∧ ps.level = 0
  resolver : ps.candidate = 0 ∧ ps.settleCount = 0 ∧ ps.accepted = 0 ∧ ps.trill = .stopped ∧
    ps.trillSeen = false ∧ ps.selected = 0 ∧ ps.active = 0 ∧ ps.bend = 0
  notes : ps.note = none ∧ ps.tagCounter = 0 ∧ ps.latch = [] ∧ ps.latchSeen = false ∧ ps.learn = none
  pool : ps.held = 0 ∧ ps.reserve = 16 ∧ ps.ceiling = 64
  link : ps.enabled = true ∧ ps.configuredRate = .r500 ∧ ps.workingRate = .r500 ∧ ps.link = .down ∧
    ps.assembly = [] ∧ ps.seqRef = none ∧ ps.silence = none ∧ ps.keyCount = 0 ∧ ps.replies = [] ∧
    ps.slot = .idle
  desk : ps.threshold = 15 ∧ ps.maskA = 0 ∧ ps.maskB = 0 ∧ ps.statusA = 0 ∧ ps.statusB = 0 ∧
    ps.events = []
  /-- The event read buffer: the spec gives its value after a SOFT_RESET alone (R174); that it is empty at power-on is
  the model's choice (log 14). -/
  readBuffer : ps.window = none

/-- The values the spec gives the whole part at power-on (R13, R43, R44, R62, R78, R80, R81, R119, R131,
R142, R146 to R148, R171, R172, R182). -/
structure PowerOnFacts (t : State) : Prop where
  voices : ∀ v, VoiceCleared (t.voice v)
  freeQueue : t.freeQueue = List.finRange 64
  counters : t.stampCounter = 0 ∧ t.sampleCount = 0
  players : ∀ p, PlayerPoweredOn (t.player p)
  curves : ∀ (c : CurveId) (i : Fin Config.numPoints), t.curves[c][i] = if i.val = 16 then 1023 else 64 * i.val
  setups : ∀ n, t.setup n = defaultSetup
  image : ∀ e : EntryId, t.entry 0 e = referenceChart[e]
  blank : ∀ n e, n ≠ 0 → t.entry n e = blankEntry
  waves : ∀ n j, waveEntry t.waves n j = if n = 0 ∧ j < 256 then sineEntry j else 0
  tuning : t.tuning = 0 ∧ t.masterGain = 256 ∧ ∀ p : Player, t.directGains[p] = 256
  clips : t.clipMain = false ∧ t.clipDirect = false
  line : t.intMode = .level ∧ t.intPolarity = .activeLow ∧ t.globalMask = 0 ∧ t.irqHigh = true ∧ t.pulse = false
  slots : ∀ i : Fin 8, t.audioFrame[i] = 0
  port : t.heldLow = none

/-! ### Invariants -/

/-- The number of voices that are not FREE and belong to a player (R82). -/
def ownedCount (s : State) (p : Player) : Nat :=
  (allVoices.filter fun v => (s.voice v).owner = some p).length

/-- The current note of p has a binding item for the voice (R84). -/
def Bound (s : State) (p : Player) (tag : BitVec 8) (b : Binding) : Prop :=
  ∃ n, (s.player p).note = some n ∧ n.tag = tag ∧ b ∈ n.binding

/-- The free queue holds each FREE voice exactly once and no other voice; a voice has an owner just when it
is not FREE; Held(p) counts the voices of p; only a FADING voice carries a claim, and the claimant owns it (R78,
R80, R82, R96, R98). A current note has at most one binding item for each layer, in layer order; its voice items
are SOUNDING voices of its player, tag and layer, and every SOUNDING voice is such an item; its claim items are
open claims of its player, tag and layer, and every open claim is such an item (R84, R98). Every LATCHED voice
stands in exactly one entry of its owner's latch stack, and a stack lists no other voice (R107). -/
structure PoolSound (s : State) : Prop where
  nodup : s.freeQueue.Nodup
  queue : ∀ v, v ∈ s.freeQueue ↔ (s.voice v).state = .free
  owner : ∀ v, (s.voice v).use = none ↔ (s.voice v).state = .free
  held : ∀ p, (s.player p).held = ownedCount s p
  claims : ∀ v c, (s.voice v).claim = some c →
    (s.voice v).state = .fading ∧ (s.voice v).owner = some c.player
  layers : ∀ p n, (s.player p).note = some n → n.binding.Pairwise fun a b => a.layer < b.layer
  bindings : ∀ p, (s.player p).boundList.Nodup
  voiceItems : ∀ p n l v, (s.player p).note = some n → { layer := l, item := .voice v } ∈ n.binding →
    (s.voice v).state = .sounding ∧ (s.voice v).use = some { owner := p, bus := p, tag := n.tag, layer := l }
  claimItems : ∀ p n l v, (s.player p).note = some n → { layer := l, item := .claim v } ∈ n.binding →
    (s.voice v).claim = some { player := p, tag := n.tag, layer := l }
  sounding : ∀ v u, (s.voice v).state = .sounding → (s.voice v).use = some u →
    Bound s u.owner u.tag { layer := u.layer, item := .voice v }
  claimed : ∀ v c, (s.voice v).claim = some c → Bound s c.player c.tag { layer := c.layer, item := .claim v }
  latched : ∀ p v, v ∈ (s.player p).stackList ↔ (s.voice v).state = .latched ∧ (s.voice v).owner = some p
  entriesOnce : ∀ p, (s.player p).stackList.Nodup

/-- Event queues hold at most 32 records, reply queues at most 8 replies, latch stacks at most 4 entries; the
reserves sum to at most 64 and every ceiling lies in 1 to 64 (R83, R107, R162, R176). -/
structure QueuesBounded (s : State) : Prop where
  events : ∀ p, (s.player p).events.length ≤ 32
  replies : ∀ p, (s.player p).replies.length ≤ 8
  latch : ∀ p, (s.player p).latch.length ≤ 4
  reserves : ∑ p, (s.player p).reserve ≤ 64
  ceilings : ∀ p, 1 ≤ (s.player p).ceiling ∧ (s.player p).ceiling ≤ 64

/-- A player is BREATHING or PENDING only while its link is UP, and has a current note only while BREATHING
(R11, R84). -/
structure PlayingOnlyUp (s : State) : Prop where
  breathing : ∀ p, (s.player p).breath = .breathing → (s.player p).link = .up
  pending : ∀ p n, (s.player p).breath = .pending n → (s.player p).link = .up
  note : ∀ p, (s.player p).note ≠ none → (s.player p).breath = .breathing

/-- A learn record and the reservation of its entry name each other (R51). -/
structure LearnsReserved (s : State) : Prop where
  recorded : ∀ p r, (s.player p).learn = some r → (s.entry r.slot r.entry).reservation = some p
  reserved : ∀ n e p, (s.entry n e).reservation = some p →
    ∃ r, (s.player p).learn = some r ∧ r.slot = n ∧ r.entry = e

/-- Silence count and sequence reference are present just while UP, the count is at most 2,400, and a
disabled link is DOWN (R149, R156, R158, R160). -/
structure LinkRecordsAgree (s : State) : Prop where
  silence : ∀ p, (s.player p).silence ≠ none ↔ (s.player p).link = .up
  seqRef : ∀ p, (s.player p).seqRef ≠ none ↔ (s.player p).link = .up
  count : ∀ p n, (s.player p).silence = some n → n ≤ 2400
  disabled : ∀ p, (s.player p).enabled = false → (s.player p).link = .down

/-- The ranges of an override entry (R69). -/
def Override.inRange : Override → Prop
  | .shift v => -3 ≤ v ∧ v ≤ 3
  | .fixed n => n ≤ 127

/-- The ranges of a layer record (R66). -/
structure Layer.InRange (l : Layer) : Prop where
  interval : -24 ≤ l.interval ∧ l.interval ≤ 24
  detune : -50 ≤ l.detune ∧ l.detune ≤ 50
  gain : l.gain ≤ 128
  pan : l.pan ≤ 128

/-- The ranges of a setup record (R63 to R66). -/
structure Setup.InRange (st : Setup) : Prop where
  trillOn : 1 ≤ st.trillOn ∧ st.trillOn ≤ 255
  trillOff : 1 ≤ st.trillOff ∧ st.trillOff ≤ 255
  settleWindow : st.settleWindow ≤ 15
  override1 : st.override1.inRange
  override2 : st.override2.inRange
  override3 : st.override3.inRange
  baseNote : st.baseNote ≤ 127
  transpose : -24 ≤ st.transpose ∧ st.transpose ≤ 24
  range : st.rangeLow ≤ 127 ∧ st.rangeHigh ≤ 127
  onset : 1 ≤ st.onset ∧ st.onset ≤ 4095
  release : st.release ≤ 4094
  smoothing : 1 ≤ st.smoothing ∧ st.smoothing ≤ 16
  biteRest : st.biteRest ≤ 127
  bendDepth : st.bendDepth ≤ 200
  glideStep : st.glideStep ≤ 255
  riseStep : 1 ≤ st.riseStep ∧ st.riseStep ≤ 65535
  fallStep : 1 ≤ st.fallStep ∧ st.fallStep ≤ 65535
  releaseStep : 1 ≤ st.releaseStep ∧ st.releaseStep ≤ 65535
  layers : ∀ l : LayerId, st.layers[l].InRange

/-- Every table and desk field holds a value of its range (R13, R44, R51, R62, R119, R146, R178). -/
structure TablesInRange (s : State) : Prop where
  setups : ∀ n, (s.setup n).InRange
  curves : ∀ c i, s.curves[(c : CurveId)][(i : Fin Config.numPoints)] ≤ 1023
  offsets : ∀ n e, -24 ≤ (s.entry n e).offset ∧ (s.entry n e).offset ≤ 48
  learns : ∀ p r, (s.player p).learn = some r → -24 ≤ r.offset ∧ r.offset ≤ 48
  tuning : -100 ≤ s.tuning ∧ s.tuning ≤ 100
  gains : s.masterGain ≤ 1023 ∧ ∀ p : Player, s.directGains[p] ≤ 1023
  zeroOffset : ∀ p, (s.player p).zeroOffset ≤ 4095
  threshold : ∀ p, (s.player p).threshold ≤ 15

/-- The ranges of a voice record (R74, R78, R118). -/
structure Voice.InRange (vo : Voice) : Prop where
  interval : -24 ≤ vo.copies.interval ∧ vo.copies.interval ≤ 24
  detune : -50 ≤ vo.copies.detune ∧ vo.copies.detune ≤ 50
  glideStep : vo.copies.glideStep ≤ 255
  riseStep : 1 ≤ vo.copies.riseStep ∧ vo.copies.riseStep ≤ 65535
  fallStep : 1 ≤ vo.copies.fallStep ∧ vo.copies.fallStep ≤ 65535
  releaseStep : 1 ≤ vo.copies.releaseStep ∧ vo.copies.releaseStep ≤ 65535
  gain : vo.copies.gain ≤ 128
  pan : vo.copies.pan ≤ 128
  glide : vo.glideCurrent ≤ 12700 ∧ vo.glideTarget ≤ 12700
  bend : -200 ≤ vo.bend ∧ vo.bend ≤ 0
  increment : vo.increment < 2 ^ 31
  amplitude : vo.amplitude ≤ 65535
  target : vo.target ≤ 65535
  morph : vo.morph ≤ 255

/-- The ranges of a latch entry: 1 to 4 voices, and the note, glide and bend of a note (R107). -/
structure LatchEntry.InRange (e : LatchEntry) : Prop where
  number : e.number ≤ 127
  glide : e.glide ≤ 12700
  bend : -200 ≤ e.bend ∧ e.bend ≤ 0
  voices : 1 ≤ e.voices.length ∧ e.voices.length ≤ 4

/-- The frames that remain in a trill phase are 1 to 255 (R19). -/
def Trill.InRange : Trill → Prop
  | .stopped => True
  | .on left | .off left => 1 ≤ left ∧ left ≤ 255

/-- The onset count of PENDING is 1 or 2 (R8). -/
def BreathState.InRange : BreathState → Prop
  | .pending n => 1 ≤ n ∧ n ≤ 2
  | .quiet | .breathing | .muted => True

/-- The breath level, the bend, the current note, the latch stacks, the counts and every voice stay in range,
over tables in range; a binding list has at most one item for each layer, in layer order; the mask bits of
unnamed flags stay clear (R8, R16, R19, R39, R40, R78, R84, R107, R118, R136, R147, R149, R181). -/
structure SoundInRange (s : State) : Prop where
  tables : TablesInRange s
  level : ∀ p, (s.player p).level ≤ 1023
  breath : ∀ p, (s.player p).breath.InRange
  bend : ∀ p, -200 ≤ (s.player p).bend ∧ (s.player p).bend ≤ 0
  settle : ∀ p, (s.player p).settleCount ≤ 15
  trill : ∀ p, (s.player p).trill.InRange
  keyCount : ∀ p, (s.player p).keyCount ≤ 24
  masks : s.globalMask.toNat ≤ 3 ∧ ∀ p, (s.player p).maskB.toNat ≤ 7
  note : ∀ p n, (s.player p).note = some n →
    n.number ≤ 127 ∧ n.binding.Pairwise fun a b => a.layer < b.layer
  latch : ∀ p, ∀ e ∈ (s.player p).latch, e.InRange
  voices : ∀ v, (s.voice v).InRange
  samples : ∀ i : Fin 6, -8388608 ≤ s.samples[i] ∧ s.samples[i] ≤ 8388607

/-- The wave store has its canonical form (R142; log 23). -/
def WavesCanonical (s : State) : Prop := Memory.wf s.waves = true

end Sys2Proof.Machine
end

