-- ==== Sys2Proof/Certificates/Slice0/Obligations.lean ====
section
/-! DEFINITION. The statements about the ZP-440 that the provers take up. In every statement the interrupt
pulse and pin are left to `InterruptLineFollowsTheFlags`, which holds for every command; all else a command
leaves unchanged stands in the statement's equation. -/

open Sys2Proof Sys2Proof.Machine

/-! ### The machine as a whole -/

/-- A step takes the command at the front of the queue and runs it on the state with the queue's rest. That
an empty queue idles is the model's choice (log 6). -/
def Obligations.StepRunsTheFrontCommand : Prop :=
  (∀ s c rest, s.pending = c :: rest → step s = exec c { s with pending := rest }) ∧
  (∀ s, s.pending = [] → step s = .next s)

/-- Every command answers a next state: the spec names no event that stops the part (spec/00_scope.md). That it
does so where its event has not been raised (log 1), and that it leaves the queue of waiting commands alone,
POWER_ON among them (log 15), is the model's choice. -/
def Obligations.EveryCommandCompletes : Prop :=
  ∀ c s, ∃ t, exec c s = .next t ∧ t.pending = s.pending

/-- R182: after every command the pin stands at the level that mode, polarity, flags and pulse give it; LEVEL
has no pulse; in EDGE a pulse is in progress just when one was before or an unmasked flag rose, and the end of
a pulse leaves all but the pulse and the pin as it was. -/
def Obligations.InterruptLineFollowsTheFlags : Prop :=
  (∀ c s t, c ≠ .interruptPulseEnd → exec c s = .next t → LineFollows s t) ∧
  (∀ s, ∃ t, exec .interruptPulseEnd s = .next t ∧ t = { s with pulse := false, irqHigh := t.irqHigh } ∧
    PinDriven t)

/-- The power-on columns: POWER_ON leaves the state after reset, and that state has the values the spec gives.
The waiting commands stay (log 15); fields the spec gives no value stand in log 14, the empty event read buffer among
them. -/
def Obligations.PowerOnValues : Prop :=
  PowerOnFacts State.reset ∧
  ∀ s, exec .powerOn s = .next { State.reset with pending := s.pending }

/-- R105 and R174: SOFT_RESET clears voices, notes, queues, flags and the held low byte, removes every
reservation, and keeps the tables, the sample count, masks, thresholds, reserves and ceilings; live flags and a
LEVEL line are clear after it, and it gives no pulse. -/
def Obligations.SoftResetClears : Prop :=
  ∀ arg s, Stands s .write 0x08 → ∃ t, exec (.softReset arg) s = .next t ∧
    t = { s with
      voices := t.voices, freeQueue := List.finRange 64, stampCounter := 0, players := t.players,
      charts := t.charts, clipMain := false, clipDirect := false, heldLow := none, txn := t.txn,
      miso := t.miso, pulse := t.pulse, irqHigh := t.irqHigh } ∧
    (∀ v, VoiceCleared (t.voice v)) ∧
    (∀ p, t.player p =
      { PlayerState.reset with
        zeroOffset := (s.player p).zeroOffset, reserve := (s.player p).reserve,
        ceiling := (s.player p).ceiling, enabled := (s.player p).enabled,
        configuredRate := (s.player p).configuredRate, workingRate := (s.player p).workingRate,
        threshold := (s.player p).threshold, maskA := (s.player p).maskA, maskB := (s.player p).maskB }) ∧
    (∀ p, (t.player p).statusA = 0 ∧ (t.player p).statusB = 0) ∧
    (∀ n e, t.entry n e = { s.entry n e with reservation := none }) ∧
    PortMoved s t 0 id ∧
    (s.intMode = .level → ¬LineActive t) ∧ (s.intMode = .edge → t.pulse = s.pulse)

/-! ### Invariants that every step keeps -/

/-- R78, R80, R82, R84, R96, R98, R107: the free queue holds each FREE voice exactly once, owners stand just at
voices that are not FREE, Held(p) counts the voices of p, and only FADING voices carry a claim, of the player that
owns them; SOUNDING voices and open claims are the items of their player's current note, one for each layer at
most, and LATCHED voices stand in exactly one entry of their owner's latch stack. -/
def Obligations.StepKeepsPoolSound : Prop :=
  ∀ s t, PoolSound s → step s = .next t → PoolSound t

/-- R83, R107, R162, R176: the bounds of queues, stacks, reserves and ceilings. -/
def Obligations.StepKeepsQueuesBounded : Prop :=
  ∀ s t, QueuesBounded s → step s = .next t → QueuesBounded t

/-- R44, R51: learn records and reservations name each other. -/
def Obligations.StepKeepsLearnsReserved : Prop :=
  ∀ s t, LearnsReserved s → step s = .next t → LearnsReserved t

/-- R11, R84, R149, R156, R158, R160: silence count and sequence reference stand just while UP, a disabled link
is DOWN, a player is PENDING or BREATHING only while its link is UP, and has a note only while BREATHING. The
silence count is at most 2,400: R149 gives 0 to 2,399, and the 2,400 that stands between the sample period that
reaches it and the SILENCE_TIMEOUT that takes it is the model's choice (log 3). -/
def Obligations.StepKeepsLinksAndPlayingAgreed : Prop :=
  ∀ s t, LinkRecordsAgree s → PlayingOnlyUp s → step s = .next t → LinkRecordsAgree t ∧ PlayingOnlyUp t

/-- R8, R16, R19, R39, R40, R44, R62 to R66, R74, R78, R107, R118, R119, R136, R146, R147, R149, R181: tables,
levels, bends, notes, latch entries, settle and trill counts, key counts, every ranged field of the voices and the
samples keep their ranges. -/
def Obligations.StepKeepsSoundInRange : Prop :=
  ∀ s t, SoundInRange s → step s = .next t → SoundInRange t

/-- The wave store keeps its canonical form, so equal stores are equal data (the representation is the
model's own, log 23). -/
def Obligations.StepKeepsWavesCanonical : Prop :=
  ∀ s t, WavesCanonical s → step s = .next t → WavesCanonical t

/-- The state after reset meets all seven invariants. -/
def Obligations.ResetMeetsTheInvariants : Prop :=
  PoolSound State.reset ∧ QueuesBounded State.reset ∧ PlayingOnlyUp State.reset ∧
  LearnsReserved State.reset ∧ LinkRecordsAgree State.reset ∧ SoundInRange State.reset ∧
  WavesCanonical State.reset

/-! ### The renderer -/

/-- R131, R132, R136, R139, R140, R145 to R148, R158: one sample period advances the sample count, renders
every voice that is not FREE, forms six saturated samples with their clip flags, sends the samples formed
before, and raises the silence count of every UP link. R158 takes the link LOST in the very sample period that
reaches 2,400; that the count stands at 2,400 with the link still UP until SILENCE_TIMEOUT takes it is the model's
choice (log 3). -/
def Obligations.SamplePeriodRenders : Prop :=
  ∀ s, ∃ t, exec .samplePeriod s = .next t ∧
    t = { s with
      sampleCount := s.sampleCount + 1, voices := t.voices, players := t.players, samples := t.samples,
      audioFrame := t.audioFrame, clipMain := t.clipMain, clipDirect := t.clipDirect, pulse := t.pulse,
      irqHigh := t.irqHigh } ∧
    (∀ v, (s.voice v).state = .free → t.voice v = s.voice v) ∧
    (∀ v, (s.voice v).state ≠ .free → RenderedAs (s.voice v) (t.voice v)) ∧
    t.samples[0] = saturated (scaledSum s s.masterGain (leftPart s.waves)) ∧
    t.samples[1] = saturated (scaledSum s s.masterGain (rightPart s.waves)) ∧
    (∀ p : Fin 4, t.samples[2 + p.val] =
      saturated (scaledSum s s.directGains[p] (directPart s.waves p))) ∧
    (t.clipMain = true ↔ s.clipMain = true ∨
      Overflows (scaledSum s s.masterGain (leftPart s.waves)) ∨
      Overflows (scaledSum s s.masterGain (rightPart s.waves))) ∧
    (t.clipDirect = true ↔ s.clipDirect = true ∨
      ∃ p : Player, Overflows (scaledSum s s.directGains[p] (directPart s.waves p))) ∧
    (∀ i : Fin 6, t.audioFrame[i.val] = BitVec.ofInt 32 (256 * s.samples[i])) ∧
    t.audioFrame[6] = 0 ∧ t.audioFrame[7] = 0 ∧
    (∀ p, t.player p =
      if (s.player p).link = .up then
        { s.player p with silence := (s.player p).silence.map fun n => min (n + 1) 2400 }
      else s.player p)

/-- R134, R135, R137, R138: over any wave store, a reading lies between its two entries, the blend between the
readings, a voice in range gives an output within its bounds, and left and right parts sum to the output or
to one less. -/
def Obligations.RenderArithmeticStaysInBounds : Prop :=
  ∀ (m : Memory) (vo : Voice),
    (∀ n, Between (waveReading m n vo.phase) (waveEntry m n (tableIndex vo.phase))
      (waveEntry m n ((tableIndex vo.phase + 1) % 256))) ∧
    (vo.morph ≤ 255 → Between (blended m vo) (waveReading m vo.copies.waveA vo.phase)
      (waveReading m vo.copies.waveB vo.phase)) ∧
    (vo.InRange → -8388480 ≤ voiceOutput m vo ∧ voiceOutput m vo ≤ 8388224) ∧
    (vo.copies.pan ≤ 128 →
      leftPart m vo + rightPart m vo = voiceOutput m vo ∨
      leftPart m vo + rightPart m vo = voiceOutput m vo - 1)

/-- R96, R136, R140: a FADING voice of amplitude at most 65,535 and target 0 stands at amplitude 0 and is
reported after at most 64 sample periods, and after n periods has fallen by 1,024 for each. -/
def Obligations.FadeEndsWithinSixtyFourPeriods : Prop :=
  ∀ vo : Voice, vo.state = .fading → vo.target = 0 → vo.amplitude ≤ 65535 →
    (∀ n, (Voice.rendered^[n] vo).amplitude = vo.amplitude - 1024 * n) ∧
    (Voice.rendered^[64] vo).endReported = true

/-! ### Ends of fades and releases -/

/-- R100, R101: at a fade end a voice with no claim, and at a release end a RELEASING voice, becomes FREE and
joins the tail of the free queue; Held of its owner falls by one, its owner, bus player, note tag and layer
become absent, and no record is queued. -/
def Obligations.EndsFreeTheVoice : Prop :=
  (∀ v u s, (s.voice v).state = .fading → (s.voice v).endReported = true → (s.voice v).claim = none →
     (s.voice v).use = some u → ∃ t, exec (.fadeEnd v) s = .next t ∧
       t = { s with
         voices := t.voices, freeQueue := s.freeQueue ++ [v], players := t.players, pulse := t.pulse,
         irqHigh := t.irqHigh } ∧
       t.voice v = { s.voice v with state := .free, use := none, endReported := false } ∧
       SameOtherVoices v s t ∧
       t.player u.owner = { s.player u.owner with held := (s.player u.owner).held - 1 } ∧
       SameOthers u.owner s t) ∧
  (∀ v u s, (s.voice v).state = .releasing → (s.voice v).endReported = true →
     (s.voice v).use = some u → ∃ t, exec (.releaseEnd v) s = .next t ∧
       t = { s with
         voices := t.voices, freeQueue := s.freeQueue ++ [v], players := t.players, pulse := t.pulse,
         irqHigh := t.irqHigh } ∧
       t.voice v = { s.voice v with state := .free, use := none, claim := none, endReported := false } ∧
       SameOtherVoices v s t ∧
       t.player u.owner = { s.player u.owner with held := (s.player u.owner).held - 1 } ∧
       SameOthers u.owner s t)

/-- R99: at a fade end a voice that carries an open claim becomes SOUNDING for the claimant's note, at its
present number, and its binding item becomes the voice. -/
def Obligations.FadeEndHandsOverClaimedVoice : Prop :=
  ∀ v c note s, (s.voice v).state = .fading → (s.voice v).endReported = true →
    (s.voice v).claim = some c → (s.player c.player).note = some note →
    ∃ t, exec (.fadeEnd v) s = .next t ∧
      t = { s with
        voices := t.voices, stampCounter := s.stampCounter + 1, players := t.players, pulse := t.pulse,
        irqHigh := t.irqHigh } ∧
      t.voice v = freshVoice s c.player (s.setup note.setup) note.number (s.player c.player).bend c.tag c.layer
        (s.stampCounter + 1) ∧
      SameOtherVoices v s t ∧
      (∃ bs, t.player c.player = { s.player c.player with note := some { note with binding := bs } } ∧
        bs.length = note.binding.length ∧
        ∀ i (h : i < note.binding.length) (h' : i < bs.length),
          (note.binding[i].item = .claim v → bs[i] = { note.binding[i] with item := .voice v }) ∧
          (note.binding[i].item ≠ .claim v → bs[i] = note.binding[i])) ∧
      SameOthers c.player s t

/-- A command whose event the part has not raised changes nothing (the model's choice, log 1). -/
def Obligations.UnraisedEventsChangeNothing : Prop :=
  ∀ s,
    (∀ v, ¬((s.voice v).state = .fading ∧ (s.voice v).endReported = true) → ChangesNothing (.fadeEnd v) s) ∧
    (∀ v, ¬((s.voice v).state = .releasing ∧ (s.voice v).endReported = true) →
      ChangesNothing (.releaseEnd v) s) ∧
    (∀ p, (∀ r, (s.player p).learn = some r → r.deadline ≠ s.sampleCount) →
      ChangesNothing (.learnTimeout p) s) ∧
    (∀ p, ¬((s.player p).link = .up ∧ (s.player p).silence = some 2400) →
      ChangesNothing (.silenceTimeout p) s) ∧
    (∀ p, (∀ q, (s.player p).slot ≠ .opened q) →
      ChangesNothing (.replySendStart p) s ∧ ChangesNothing (.replySlotClosed p) s) ∧
    (∀ p, (∀ x, (s.player p).slot ≠ .sending x) →
      ChangesNothing (.replySent p) s ∧ ChangesNothing (.collision p) s)

/-! ### The voice pool -/

/-- R92: below the ceiling T1 goes before T2 and T2 before T3. T1 takes the RELEASING voice of lowest amplitude, the
oldest among equals; T2 the oldest LATCHED voice of p in the lowest entry of its stack that holds one. R93: T3 takes
from the player of the largest excess that has a candidate, the lower number first, its oldest LATCHED voice, or
where none is LATCHED its oldest SOUNDING one. R90: at the ceiling the quietest RELEASING voice of p goes before its
LATCHED ones. Each search finds a voice where there is a candidate. R94: no search of p takes a FREE or a FADING
voice or a SOUNDING voice of p. -/
def Obligations.StealSearchesSpareProtectedVoices : Prop :=
  ∀ s p v,
    (tierVictim s p = some v ↔
      tierOne s = some v ∨ tierOne s = none ∧ tierTwo s p = some v ∨
      tierOne s = none ∧ tierTwo s p = none ∧ tierThree s p = some v) ∧
    (tierOne s = some v ↔ QuietestOf s (fun w => (s.voice w).state = .releasing) v) ∧
    (tierTwo s p = some v ↔ LowestLatched s p v) ∧
    (tierThree s p = some v ↔ RobbedIn s p v) ∧
    (ownVictim s p = some v ↔
      QuietestOf s (OwnedIn s p .releasing) v ∨
      (∀ w, ¬OwnedIn s p .releasing w) ∧ LowestLatched s p v) ∧
    (tierOne s = none ↔ ∀ w, (s.voice w).state ≠ .releasing) ∧
    (tierTwo s p = none ↔ ∀ e ∈ (s.player p).latch, ∀ w ∈ e.voices, ¬OwnedIn s p .latched w) ∧
    (tierThree s p = none ↔ ∀ q, q ≠ p → 0 < excessOf s q → ¬Robbable s q) ∧
    (tierVictim s p = some v →
      (s.voice v).state = .releasing ∨ (s.voice v).state = .latched ∨
      ((s.voice v).state = .sounding ∧ (s.voice v).owner ≠ some p))

/-- R91, R95: below the ceiling, a layer request takes the voice at the head of the free queue, set up afresh, and
the binding item is the voice. Where the pool has no voice for a layer, the DENIED flag is set, WARN DENIED is
placed, the binding item is "denied", and the pool is unchanged. R86, R90, R96: where a search finds a voice, that
voice is stolen for the layer and the binding item is the open claim. R86, R87: an onset makes one request for each
enabled layer, in order, and whatever the answers queues NOTE_ON with the number of voices and claims, then one
VOICE_DENIED for each denied item, in layer order. -/
def Obligations.LayerRequestsGrantOrDeny : Prop :=
  (∀ p note l v rest s n, (s.player p).held < (s.player p).ceiling → s.freeQueue = v :: rest →
     (s.player p).note = some n →
     layerRequest p note l s =
       { s with
         voices := (layerRequest p note l s).voices, freeQueue := rest, stampCounter := s.stampCounter + 1,
         players := (layerRequest p note l s).players } ∧
     (layerRequest p note l s).voice v = freshVoice s p (s.setup note.setup) note.number (s.player p).bend
       note.tag l (s.stampCounter + 1) ∧
     SameOtherVoices v s (layerRequest p note l s) ∧
     (layerRequest p note l s).player p =
       { s.player p with
         held := (s.player p).held + 1
         note := some { n with binding := n.binding ++ [{ layer := l, item := .voice v }] } } ∧
     SameOthers p s (layerRequest p note l s)) ∧
  (∀ p note l n s, (s.player p).note = some n →
     ((s.player p).ceiling ≤ (s.player p).held ∧ ownVictim s p = none ∨
       (s.player p).held < (s.player p).ceiling ∧ s.freeQueue = [] ∧ tierVictim s p = none) →
     layerRequest p note l s = { s with players := (layerRequest p note l s).players } ∧
     (layerRequest p note l s).player p =
       PlayerState.placed
         { s.player p with
           denied := true
           note := some { n with binding := n.binding ++ [{ layer := l, item := .denied }] } }
         (.denied note.number l) ∧
     SameOthers p s (layerRequest p note l s)) ∧
  (∀ p note l n v s, (s.player p).note = some n →
     ((s.player p).ceiling ≤ (s.player p).held ∧ ownVictim s p = some v ∨
       (s.player p).held < (s.player p).ceiling ∧ s.freeQueue = [] ∧ tierVictim s p = some v) →
     let stolen := stealVoice v p note.tag l s
     layerRequest p note l s = { stolen with players := (layerRequest p note l s).players } ∧
     (layerRequest p note l s).player p =
       { stolen.player p with
         note := some { n with binding := n.binding ++ [{ layer := l, item := .claim v }] } } ∧
     SameOthers p stolen (layerRequest p note l s)) ∧
  (∀ p n flag s,
     let tag := (s.player p).tagCounter + 1
     let note : Note := { tag := tag, number := n, flag := flag, setup := (s.player p).active, binding := [] }
     let u := (enabledLayers (s.activeSetup p)).foldl (fun t l => layerRequest p note l t)
       (s.modPlayer p fun ps => { ps with tagCounter := tag, note := some note })
     let t := onsetDecision p n flag s
     ∃ items : List Binding, (u.player p).note = some { note with binding := items } ∧
       items.map Binding.layer = enabledLayers (s.activeSetup p) ∧ items.length ≤ 4 ∧
       t = { u with players := t.players } ∧ SameOthers p u t ∧
       t.player p = (u.player p).queuedAll
         ([recordOf s .noteOn tag n flag.byte (items.filter fun b => b.item ≠ .denied).length] ++
           (items.filter fun b => b.item = .denied).map fun b => recordOf s .voiceDenied tag n 0 b.layer.val))

/-- R96, R97: a steal makes the voice FADING for p with an open claim, keeping bus, stamp, copies, pitch, phase and
morph; the held counts of p and of the former owner move, and the former owner is told by VOICE_TAKEN and WARN
TAKEN. The binding item of a voice that was SOUNDING becomes "denied"; for a RELEASING voice nothing else changes,
and where p steals its own the held count is as it was. -/
def Obligations.StealTakesSoundingVoice : Prop :=
  ∀ v p tag l u s, (s.voice v).use = some u →
    let t := stealVoice v p tag l s
    let told (flags : Nat) (ps : PlayerState) : PlayerState :=
      PlayerState.placed
        (PlayerState.queued ps
          (recordOf s .voiceTaken u.tag ((s.voice v).glideTarget / 100)
            (BitVec.ofNat 8 (4 * u.layer.val + 16 * flags)) v.val))
        (.taken ((s.voice v).glideTarget / 100) u.layer v)
    let q := s.player u.owner
    (s.voice v).state = .sounding ∧ u.owner ≠ p ∨ (s.voice v).state = .releasing →
    t = { s with voices := t.voices, players := t.players } ∧
    t.voice v =
      { s.voice v with
        state := .fading, use := some { u with owner := p }, target := 0,
        claim := some { player := p, tag := tag, layer := l }, endReported := false } ∧
    SameOtherVoices v s t ∧
    (u.owner ≠ p → t.player p = { s.player p with held := (s.player p).held + 1 }) ∧
    ((s.voice v).state = .sounding → t.player u.owner = told 1
      { q with
        held := q.held - 1
        note := q.note.map fun n => { n with binding := n.binding.map (withoutVoice v) } }) ∧
    ((s.voice v).state = .releasing → u.owner ≠ p →
      t.player u.owner = told 2 { q with held := q.held - 1 }) ∧
    ((s.voice v).state = .releasing → u.owner = p → 0 < q.held → t.player u.owner = told 2 q) ∧
    ∀ r, r ≠ p → r ≠ u.owner → t.player r = s.player r

/-- R113, R96, R81: a steal of a LATCHED voice takes it out of its latch entry; an entry left with no voice is removed
and reported by LATCH_DROP after the VOICE_TAKEN, and by WARN LATCH_DROPPED after the WARN TAKEN. Stolen for another
player both held counts move; a steal of p's own leaves Held(p) as it is. Nothing else changes: not the free queue,
the stamp counter, or the rest of either player's record. -/
def Obligations.StealShrinksLatchEntry : Prop :=
  ∀ v p tag l u below e above s, (s.voice v).use = some u → (s.voice v).state = .latched →
    (s.player u.owner).latch = below ++ e :: above → v ∈ e.voices → (∀ x ∈ below, v ∉ x.voices) →
    0 < (s.player u.owner).held →
    let t := stealVoice v p tag l s
    let q := s.player u.owner
    let left := if u.owner = p then q.held else q.held - 1
    let taken := recordOf s .voiceTaken u.tag ((s.voice v).glideTarget / 100)
      (BitVec.ofNat 8 (4 * u.layer.val + 48)) v.val
    let warned : Reply := .taken ((s.voice v).glideTarget / 100) u.layer v
    t = { s with voices := t.voices, players := t.players } ∧
    t.voice v =
      { s.voice v with
        state := .fading, use := some { u with owner := p }, target := 0,
        claim := some { player := p, tag := tag, layer := l }, endReported := false } ∧
    SameOtherVoices v s t ∧
    (u.owner ≠ p → t.player p = { s.player p with held := (s.player p).held + 1 }) ∧
    (∀ r, r ≠ p → r ≠ u.owner → t.player r = s.player r) ∧
    (e.voices.erase v ≠ [] → t.player u.owner =
      PlayerState.placed
        (PlayerState.queued
          { q with held := left, latch := below ++ { e with voices := e.voices.erase v } :: above } taken)
        warned) ∧
    (e.voices.erase v = [] → t.player u.owner =
      PlayerState.placedAll
        (PlayerState.queuedAll { q with held := left, latch := below ++ above }
          [taken, recordOf s .latchDrop e.tag e.number e.flag.byte 2])
        [warned, .latchDropped e.number])

/-- R177, R162: a record joins the tail of a queue of fewer than 32 and is refused with EVQ_OVERFLOW by a full
one; a reply likewise at 8 with RPQ_OVERFLOW. -/
def Obligations.QueuesRefuseWhenFull : Prop :=
  (∀ p kind tag note flags value s,
    SameOthers p s (report p kind tag note flags value s) ∧
    ((s.player p).events.length < 32 → (report p kind tag note flags value s).player p =
      { s.player p with events := (s.player p).events ++ [recordOf s kind tag note flags value] }) ∧
    (32 ≤ (s.player p).events.length → (report p kind tag note flags value s).player p =
      { s.player p with statusA := (s.player p).statusA ||| 0x40 })) ∧
  (∀ p r s,
    SameOthers p s (placeReply p r s) ∧
    ((s.player p).replies.length < 8 → (placeReply p r s).player p =
      { s.player p with replies := (s.player p).replies ++ [r] }) ∧
    (8 ≤ (s.player p).replies.length → (placeReply p r s).player p =
      { s.player p with statusA := (s.player p).statusA ||| 0x80 }))

/-! ### Sense frames -/

/-- R155, R153: a SENSE or LEARN_REQ frame taken while DOWN changes nothing but that it has been taken. -/
def Obligations.FramesDiscardedWhileDown : Prop :=
  ∀ p f s, (s.player p).link = .down →
    (frameStands s p { kind := .sense, body := f } = true → ∃ t, exec (.senseFrame p f) s = .next t ∧
      t = { s with players := t.players, pulse := t.pulse, irqHigh := t.irqHigh } ∧
      t.player p = { s.player p with received := none } ∧ SameOthers p s t) ∧
    (frameStands s p { kind := .learnReq, body := f } = true → ∃ t, exec (.learnReq p f) s = .next t ∧
      t = { s with players := t.players, pulse := t.pulse, irqHigh := t.irqHigh } ∧
      t.player p = { s.player p with received := none } ∧ SameOthers p s t)

/-- The accepted sense frame (R1, R5 to R9, R15, R16, R19, R21, R22, R24 to R29, R40, R108, R155 to R157,
R163): what the breath front end, the resolver and the link receiver of the player hold after it. Voices,
notes and queues change as the note decision says; other players and the tables are left alone but for that. R85,
R157, R21, R22, R58: a frame that finds no note and does not leave the player BREATHING, with no latch press, leaves
pool and note alone; it queues LINK_UP RECOVERED where the link was LOST, and SETUP_APPLIED with the LEARN_ENDED
and LEARN_RESULT of a cancelled learn where the active setup changes, at the start of the frame or at its end. That
LEARN_ENDED follows SETUP_APPLIED is the model's, deduced (log 12). -/
def Obligations.SenseFrameSetsTheRecords : Prop :=
  (∀ p f s, (s.player p).link = .up ∨ (s.player p).link = .lost →
    frameStands s p { kind := .sense, body := f } = true →
    ∃ t, exec (.senseFrame p f) s = .next t ∧ FrameRecords s p f t) ∧
  (∀ p f s, StaysSilent s p f → pressed s p f = false →
    ∃ t, exec (.senseFrame p f) s = .next t ∧
      NoneDecided s p f false (silentRecords s p f false) (changeReplies s p f) t ∧ LearnFollows s p f t)

/-- R8, R26, R31 to R38, R54, R85 to R87, R91, R17: on the third confirming frame of an UP link, with no latch press,
a matched fingering sounds one voice of the free queue for each enabled layer, in order, at the frame's bend and
level, and queues NOTE_ON with their number; a pending learn has been completed and reported before the lookup. An
unmatched fingering begins no note, pressed or not. A player that is BREATHING with no note takes such an onset under
the policy SILENT at a matched fingering, and none otherwise. R86, R87, R95, R108: whatever the pool holds, the frame
takes the onset decision (`LayerRequestsGrantOrDeny`) over the state its earlier stages leave, then what a press does
to the new note (`LatchPushFreezesTheNote`), then the hand-off. -/
def Obligations.OnsetSoundsEnabledLayers : Prop :=
  ∀ p f s, AcceptedFrame s p f → (s.player p).note = none →
    (∀ n flag records replies, Confirms s p f → LearnReports s p (senseFields f) records replies →
      onsetResolution (afterLearn s p (senseFields f)) p (senseFields f) = .matched n flag →
      pressed s p f = false → PoolSuffices s p →
      ∃ t, exec (.senseFrame p f) s = .next t ∧ OnsetTaken s p f n flag records replies t) ∧
    (∀ n flag records replies, Confirms s p f → LearnReports s p (senseFields f) records replies →
      onsetResolution (afterLearn s p (senseFields f)) p (senseFields f) = .matched n flag →
      let w := onsetDecision p n flag (onsetState s p f records replies)
      ∃ t, exec (.senseFrame p f) s = .next t ∧ HandedOff p f (if pressed s p f then press p w else w) t) ∧
    (∀ records replies, Confirms s p f → LearnReports s p (senseFields f) records replies →
      onsetResolution (afterLearn s p (senseFields f)) p (senseFields f) = .unmatched →
      ∃ t, exec (.senseFrame p f) s = .next t ∧ NoneDecided s p f false records replies t) ∧
    (∀ n flag, GoesOn s p f → (s.activeSetup p).policy = .silent →
      heldResolution s p (senseFields f) = .matched n flag → pressed s p f = false → PoolSuffices s p →
      ∃ t, exec (.senseFrame p f) s = .next t ∧ OnsetTaken s p f n flag [] [] t ∧ LearnFollows s p f t) ∧
    (∀ n flag, GoesOn s p f → (s.activeSetup p).policy = .silent →
      heldResolution s p (senseFields f) = .matched n flag →
      let w := onsetDecision p n flag (heardState s p f)
      ∃ t, exec (.senseFrame p f) s = .next t ∧ HandedOff p f (if pressed s p f then press p w else w) t) ∧
    (GoesOn s p f →
      (s.activeSetup p).policy = .hold ∨ heldResolution s p (senseFields f) = .unmatched →
      ∃ t, exec (.senseFrame p f) s = .next t ∧ NoneDecided s p f false [] [] t ∧ LearnFollows s p f t)

/-- R9, R85, R89, R121, R17: a frame that takes BREATHING to QUIET ends the current note: its SOUNDING voices are
released, its claims cleared, nothing else in the pool changes, and NOTE_OFF BREATH is queued, before a waiting setup
change. A latch press on that frame clears the stack after the NOTE_OFF (R108, R112). The setup's SETUP_APPLIED stands
before the LEARN_ENDED of the learn it cancels: that order is the model's, deduced (log 12). Under the policy SILENT an
unmatched fingering ends the note of a player that goes on BREATHING, with NOTE_OFF UNMATCHED, pressed or not. -/
def Obligations.BreathReleaseEndsTheNote : Prop :=
  ∀ p f s note, AcceptedFrame s p f → (s.player p).note = some note →
    (Releases s p f →
      ∃ t, exec (.senseFrame p f) s = .next t ∧ (t.player p).breath = .quiet ∧ LearnFollows s p f t ∧
        NoteEnded s p f (pressed s p f)
          ([recordOf s .noteOff note.tag note.number 0 1] ++
            (if pressed s p f then latchClearRecords s p 1 else []) ++
            (if changesAtEnd s p f then changeRecords s p f else [])) (changeReplies s p f) t) ∧
    (GoesOn s p f → (s.activeSetup p).policy = .silent →
      heldResolution s p (senseFields f) = .unmatched →
      ∃ t, exec (.senseFrame p f) s = .next t ∧ (t.player p).breath = .breathing ∧ LearnFollows s p f t ∧
        NoteEnded s p f false [recordOf s .noteOff note.tag note.number 0 2] [] t)

/-- R88, R122: a change decision moves the note to its new number: glide targets of its SOUNDING voices follow,
claims and denied items stay, nothing is granted or released, and NOTE_CHANGE is queued. R85, R121, R17: a frame of a
BREATHING player takes that decision where the fingering matches another number; whether it does or not, each
SOUNDING voice of the note takes one glide step, the frame's bend, the increment of its pitch, and the target and
morph of the breath level. A latch press on a note with no SOUNDING voice does nothing (R108). That no binding list
names a voice twice is part of `PoolSound`. -/
def Obligations.ChangeDecisionMovesTheNote : Prop :=
  (∀ p n flag note s, (s.player p).note = some note →
    changeDecision p n flag s =
      { s with voices := (changeDecision p n flag s).voices, players := (changeDecision p n flag s).players } ∧
    (∀ v, (changeDecision p n flag s).voice v =
      if v ∈ (s.player p).boundList ∧ (s.voice v).state = .sounding then
        { s.voice v with glideTarget := 100 * n } else s.voice v) ∧
    (changeDecision p n flag s).player p =
      PlayerState.queued { s.player p with note := some { note with number := n, flag := flag } }
        (recordOf s .noteChange note.tag n flag.byte 0) ∧
    SameOthers p s (changeDecision p n flag s)) ∧
  (∀ p f note s, AcceptedFrame s p f → GoesOn s p f → (s.player p).note = some note →
    (s.player p).boundList.Nodup → pressed s p f = false ∨ s.noteVoices p = [] →
    ¬((s.activeSetup p).policy = .silent ∧ heldResolution s p (senseFields f) = .unmatched) →
    ∃ t, exec (.senseFrame p f) s = .next t ∧ (t.player p).breath = .breathing ∧ LearnFollows s p f t ∧
      NoteFollowed s p f note (movesTo (heldResolution s p (senseFields f)) note) t)

/-- R109 to R111: a push on a full stack first drops the bottom entry: its voices are released and LATCH_DROP FULL is
queued. The push then freezes the note's SOUNDING voices into a new top entry and clears its claims, and the fresh
onset that follows begins a note of the same number with the next tag. R108: a frame of a player that goes on BREATHING
whose latch button goes down after up pushes the note that the frame has followed or moved, where a voice of it is
SOUNDING, and then hands off the level. -/
def Obligations.LatchPushFreezesTheNote : Prop :=
  (∀ p s, (s.player p).latch.length < 4 → makeRoom p s = s) ∧
  (∀ p e es s, (s.player p).latch = e :: es → 3 ≤ es.length →
    makeRoom p s = { s with voices := (makeRoom p s).voices, players := (makeRoom p s).players } ∧
    (∀ v, (makeRoom p s).voice v =
      if v ∈ e.voices ∧ (s.voice v).state = .latched then
        { s.voice v with state := .releasing, target := 0, endReported := false } else s.voice v) ∧
    (makeRoom p s).player p =
      PlayerState.queued { s.player p with latch := es } (recordOf s .latchDrop e.tag e.number e.flag.byte 1) ∧
    SameOthers p s (makeRoom p s)) ∧
  (∀ p note s, (s.player p).note = some note → s.noteVoices p ≠ [] →
    let r := makeRoom p s
    let t := latchNote p note r
    ∃ entry, t = { r with voices := t.voices, players := t.players } ∧
      t.player p =
        PlayerState.queued { r.player p with latch := (r.player p).latch ++ [entry], note := none }
          (recordOf s .latchPush note.tag note.number note.flag.byte (s.noteVoices p).length) ∧
      SameOthers p r t ∧
      entry.tag = note.tag ∧ entry.number = note.number ∧ entry.flag = note.flag ∧
      entry.voices = s.noteVoices p ∧ entry.bend = (s.player p).bend ∧
      (∀ v, (s.noteVoices p).head? = some v → entry.glide = (s.voice v).glideCurrent) ∧
      (∀ v, v ∈ s.noteVoices p → v ∉ (s.player p).claimedList →
        t.voice v = Voice.retune s.tuning
          { s.voice v with
            state := .latched, target := (s.voice v).amplitude, glideCurrent := entry.glide,
            glideTarget := entry.glide, bend := entry.bend, endReported := false }) ∧
      (∀ v, v ∉ s.noteVoices p → t.voice v =
        if v ∈ (s.player p).claimedList then { r.voice v with claim := none } else r.voice v) ∧
      ∃ fresh, ((push p note s).player p).note = some fresh ∧ fresh.number = note.number ∧
        fresh.flag = note.flag ∧ fresh.tag = (s.player p).tagCounter + 1 ∧
        fresh.setup = (s.player p).active ∧
        fresh.binding.map Binding.layer = enabledLayers (s.activeSetup p)) ∧
  (∀ p note s, (s.player p).breath = .breathing → (s.player p).note = some note →
    press p s = if s.noteVoices p = [] then s else push p note s) ∧
  (∀ p f note s, AcceptedFrame s p f → GoesOn s p f → (s.player p).note = some note →
    (s.player p).boundList.Nodup → pressed s p f = true → s.noteVoices p ≠ [] →
    ¬((s.activeSetup p).policy = .silent ∧ heldResolution s p (senseFields f) = .unmatched) →
    let moved := movesTo (heldResolution s p (senseFields f)) note
    ∃ t u, exec (.senseFrame p f) s = .next t ∧ FollowedToPress s p f note moved u ∧
      HandedOff p f (push p (movedNote note moved) u) t)

/-- R112, R109: a press while not BREATHING with no current note empties the stack: every LATCHED voice of its
entries is released, and LATCH_CLEAR with reason BUTTON carries the number of entries. An empty stack stays as
it is. R108: a frame that finds no note and does not leave the player BREATHING takes the press when its latch button
goes down after up, among the other records of the frame (the order of a setup change: log 12). -/
def Obligations.LatchPressClearsTheStack : Prop :=
  (∀ p s, (s.player p).breath ≠ .breathing → (s.player p).note = none →
    press p s = { s with voices := (press p s).voices, players := (press p s).players } ∧
    (∀ v, (press p s).voice v = unlatchedVoice (s.player p) v (s.voice v)) ∧
    (press p s).player p =
      PlayerState.queuedAll { s.player p with latch := [] } (latchClearRecords s p 1) ∧
    SameOthers p s (press p s)) ∧
  (∀ p f s, StaysSilent s p f → pressed s p f = true →
    ∃ t, exec (.senseFrame p f) s = .next t ∧
      NoneDecided s p f true (silentRecords s p f true) (changeReplies s p f) t ∧ LearnFollows s p f t)

/-- R54 to R56: the completion of a pending learn: the entry is written whole from the accepted keys and the
key mask, the reservation and the record go, and the result tells whether an earlier entry matches. The frame that
confirms a breath onset completes it with its own masked keys, and queues LEARN_DONE and places LEARN_RESULT before all
its other records and replies. -/
def Obligations.CompletionWritesTheLearnedEntry : Prop :=
  (∀ p r s, (s.player p).learn = some r →
    completeLearn p s =
      { s with charts := (completeLearn p s).charts, players := (completeLearn p s).players } ∧
    (completeLearn p s).entry r.slot r.entry =
      { valid := true, pattern := (s.player p).accepted, care := (s.activeSetup p).keyMask,
        offset := r.offset, learned := true, reservation := none } ∧
    SameOtherEntries r.slot r.entry s (completeLearn p s) ∧ SameOthers p s (completeLearn p s) ∧
    ∃ result, (result = .ok ∨ result = .okShadowed) ∧
      (result = .okShadowed ↔ ∃ e, e < r.entry ∧ Matches (s.entry r.slot e) (s.player p).accepted) ∧
      (completeLearn p s).player p =
        PlayerState.placed
          (PlayerState.queued { s.player p with learn := none }
            (recordOf s .learnDone 0 r.slot.val (if result = .ok then 0 else 1) r.entry.val))
          (.learnResult r.slot.val result r.entry.val)) ∧
  (∀ p f r s, (s.player p).link = .up → frameStands s p { kind := .sense, body := f } = true → Confirms s p f →
    (s.player p).learn = some r →
    ∃ t records replies more later, exec (.senseFrame p f) s = .next t ∧
      t.entry r.slot r.entry = learnedEntry s p (senseFields f) r ∧ SameOtherEntries r.slot r.entry s t ∧
      (t.player p).learn = none ∧ LearnReports s p (senseFields f) records replies ∧
      (t.player p).events = ((s.player p).queuedAll records).events ++ more ∧
      (t.player p).replies = ((s.player p).placedAll replies).replies ++ later)

/-! ### HELLO and LEARN_REQ -/

/-- R155 to R157: HELLO takes the declared key count; while UP its sequence number is tested, and a DOWN or
LOST link becomes UP with a LINK_UP record of cause HELLO. -/
def Obligations.HelloTakesTheKeyCount : Prop :=
  ∀ p f s, frameStands s p { kind := .hello, body := f } = true →
    ∃ t, exec (.hello p f) s = .next t ∧
      t = { s with players := t.players, pulse := t.pulse, irqHigh := t.irqHigh } ∧ SameOthers p s t ∧
      ((s.player p).link = .up → t.player p =
        { s.player p with
          received := none, keyCount := min f.c1.toNat 24, seqRef := some f.seq,
          statusA := statusAfterSeq (s.player p) f.seq }) ∧
      ((s.player p).link ≠ .up → t.player p =
        PlayerState.queued
          { s.player p with
            received := none, keyCount := min f.c1.toNat 24, link := .up, silence := some 0,
            seqRef := some f.seq }
          (recordOf s .linkUp 0 (min f.c1.toNat 24) 0 1))

/-- R52, R53: a LEARN_REQ while UP is refused with REFUSED where a learn is pending or the index is 64 or more,
with BUSY where another player holds the entry, and is else accepted: the entry is reserved and the learn
record carries its deadline, 96,000 sample periods on. While LOST it ends at once as CANCELLED; no reservation
is made and the sequence reference is left alone. -/
def Obligations.LearnRequestsAreAnswered : Prop :=
  (∀ p f s, (s.player p).link = .up → frameStands s p { kind := .learnReq, body := f } = true →
     ∃ t, exec (.learnReq p f) s = .next t ∧ SameOthers p s t ∧
       t = { s with players := t.players, charts := t.charts, pulse := t.pulse, irqHigh := t.irqHigh } ∧
       let slot := (s.activeSetup p).chartSlot
       let taken := { s.player p with
         received := none, seqRef := some f.seq, statusA := statusAfterSeq (s.player p) f.seq }
       ((s.player p).learn ≠ none ∨ 64 ≤ f.c1.toNat →
         t.charts = s.charts ∧ t.player p = taken.placed (.learnResult 0 .refused f.c1.toNat)) ∧
       ∀ e : EntryId, (s.player p).learn = none → e.val = f.c1.toNat →
         ((∃ q, q ≠ p ∧ (s.entry slot e).reservation = some q) →
           t.charts = s.charts ∧ t.player p = taken.placed (.learnResult 0 .busy e.val)) ∧
         ((s.entry slot e).reservation = none ∨ (s.entry slot e).reservation = some p →
           t.entry slot e = { s.entry slot e with reservation := some p } ∧ SameOtherEntries slot e s t ∧
           t.player p = { taken with
             learn := some { slot := slot, entry := e, offset := min 48 ((f.c2.toNat : Int) - 24),
                             deadline := s.sampleCount + 96000 } })) ∧
  (∀ p f s, (s.player p).link = .lost → frameStands s p { kind := .learnReq, body := f } = true →
     ∃ t, exec (.learnReq p f) s = .next t ∧ SameOthers p s t ∧
       t = { s with players := t.players, pulse := t.pulse, irqHigh := t.irqHigh } ∧
       t.player p =
         PlayerState.placed
           (PlayerState.queued { s.player p with received := none }
             (recordOf s .learnEnded 0 0 6 f.c1.toNat))
           (.learnResult 0 .cancelled f.c1.toNat))

/-- R59: at its deadline a pending learn ends as TIMEOUT: the reservation and the record go, LEARN_ENDED is
queued and LEARN_RESULT placed. -/
def Obligations.LearnTimeoutEndsTheLearn : Prop :=
  ∀ p r s, (s.player p).learn = some r → r.deadline = s.sampleCount →
    ∃ t, exec (.learnTimeout p) s = .next t ∧
      t = { s with players := t.players, charts := t.charts, pulse := t.pulse, irqHigh := t.irqHigh } ∧
      t.entry r.slot r.entry = { s.entry r.slot r.entry with reservation := none } ∧
      SameOtherEntries r.slot r.entry s t ∧ SameOthers p s t ∧
      t.player p =
        PlayerState.placed
          (PlayerState.queued { s.player p with learn := none }
            (recordOf s .learnEnded 0 r.slot.val 4 r.entry.val))
          (.learnResult r.slot.val .timeout r.entry.val)

/-! ### Links -/

/-- R158: at 2,400 sample periods without a valid sense frame the link goes LOST: LINK_LOST flag and record, an
empty reply queue, note off, latch clear, learn cancel without a reply and a waiting setup, in that order. That the
count stands at 2,400 before the command takes it (log 3), and that a waiting selection of a MUTED player is not
applied (log 13), is the model's, deduced. -/
def Obligations.SilenceTimeoutLosesTheLink : Prop :=
  ∀ p s, (s.player p).link = .up → (s.player p).silence = some 2400 →
    ∃ t, exec (.silenceTimeout p) s = .next t ∧
      t = { s with
        voices := t.voices, players := t.players, charts := t.charts, pulse := t.pulse, irqHigh := t.irqHigh } ∧
      LeftLink p s t ∧
      t.player p = PlayerState.queuedAll
        { (s.player p).left .lost with replies := [], statusA := (s.player p).statusA ||| 0x20 }
        (leaveRecords s p 1)

/-- R160: disabling an enabled link makes it DOWN from any state, and from UP lets its note, stack and learn
go; enabling leaves it DOWN, and the receiver takes the characters that begin after it (R151; log 27); a write that
leaves the enable as it was has no effect. That a waiting selection of a MUTED player is not applied is the model's,
deduced (log 13). -/
def Obligations.LinkEnableWrites : Prop :=
  ∀ p upper s, Stands s .write (areaAddress p 0x00) →
    (∃ t, exec (.linkDisable p upper) s = .next t ∧ PortMoved s t 0 id ∧
      t = { s with
        voices := t.voices, players := t.players, charts := t.charts, txn := t.txn, miso := t.miso,
        pulse := t.pulse, irqHigh := t.irqHigh } ∧
      ((s.player p).enabled = true → t.player p = disabledRecord s p) ∧
      ((s.player p).enabled = true → (s.player p).link = .up → LeftLink p s t) ∧
      ((s.player p).enabled = true → (s.player p).link ≠ .up →
        t.voices = s.voices ∧ t.charts = s.charts ∧ SameOthers p s t) ∧
      ((s.player p).enabled = false →
        t.players = s.players ∧ t.voices = s.voices ∧ t.charts = s.charts)) ∧
    (∃ t, exec (.linkEnable p upper) s = .next t ∧ PortMoved s t 0 id ∧
      t = { s with
        players := t.players, txn := t.txn, miso := t.miso, pulse := t.pulse, irqHigh := t.irqHigh } ∧
      ((s.player p).enabled = false →
        t.player p = { s.player p with enabled := true, restarted := true } ∧ SameOthers p s t) ∧
      ((s.player p).enabled = true → t.players = s.players))

/-- R161, R151: LINK_RESET empties the receiver and the resolver's record, takes the configured rate, cancels a
pending capture, and from UP lets note, stack and learn go; the event queue is kept, and a character in reception
will not be taken (log 27). That a waiting selection of a MUTED player is not applied is the model's, deduced
(log 13); from DOWN or LOST, where the part has no note and an empty stack, the model releases nothing (log 18). -/
def Obligations.LinkResetClearsTheReceiver : Prop :=
  ∀ (p : Player) arg s, arg.toNat = p.val → Stands s .write 0x08 →
    ∃ t, exec (.linkReset arg) s = .next t ∧ PortMoved s t 0 id ∧
      t = { s with
        voices := t.voices, players := t.players, charts := t.charts, txn := t.txn, miso := t.miso,
        pulse := t.pulse, irqHigh := t.irqHigh } ∧
      t.player p = linkResetRecord s p ∧
      ((s.player p).link = .up → LeftLink p s t) ∧
      ((s.player p).link ≠ .up → t.voices = s.voices ∧ t.charts = s.charts ∧ SameOthers p s t)

/-- R151 to R153: a character is not received while the link is disabled or the part sends, and one that began
before the receiver last began to take characters is discarded and sets no flag (log 27); a failed stop bit discards
a character and the frame in assembly with CHAR_ERR; a header begins a frame, a data character extends one, and the
ill-placed ones set FORMAT_ERR. The tenth character completes the frame: a wrong check sets CHECK_ERR alone, an
unknown kind sets FORMAT_ERR, and a valid frame is handed on with its kind, sequence number and characters
(log 5). -/
def Obligations.CharactersAssembleAndCheckFrames : Prop :=
  (∀ p c rx s, ∃ t, exec (.character p c rx) s = .next t ∧
     t = { s with players := t.players, pulse := t.pulse, irqHigh := t.irqHigh } ∧ SameOthers p s t ∧
     let before := s.player p
     let ps := { before with restarted := false }
     let heard := before.enabled = true ∧ ∀ x, before.slot ≠ .sending x
     let late := rx.early = true ∧ before.restarted = true
     let taken := heard ∧ ¬late
     (¬heard → t.player p = before) ∧
     (heard → late → t.player p = ps) ∧
     (taken → rx.stopOk = false → t.player p = { ps with assembly := [], statusA := ps.statusA ||| 0x01 }) ∧
     (taken → rx.stopOk = true → c.msb = true → ps.assembly = [] → t.player p = { ps with assembly := [c] }) ∧
     (taken → rx.stopOk = true → c.msb = true → ps.assembly ≠ [] →
       t.player p = { ps with assembly := [c], statusA := ps.statusA ||| 0x04 }) ∧
     (taken → rx.stopOk = true → c.msb = false → ps.assembly = [] →
       t.player p = { ps with statusA := ps.statusA ||| 0x04 }) ∧
     (taken → rx.stopOk = true → c.msb = false → ps.assembly ≠ [] → ps.assembly.length < 9 →
       t.player p = { ps with assembly := ps.assembly ++ [c] })) ∧
  (∀ p c rx s, (s.player p).enabled = true → (∀ x, (s.player p).slot ≠ .sending x) → rx.stopOk = true →
     ¬(rx.early = true ∧ (s.player p).restarted = true) → c.msb = false → (s.player p).assembly.length = 9 →
     ∃ t, exec (.character p c rx) s = .next t ∧
       t = { s with players := t.players, pulse := t.pulse, irqHigh := t.irqHigh } ∧ SameOthers p s t ∧
       let ps := { s.player p with restarted := false }
       let a := ps.assembly
       let sum := (a.map BitVec.toNat).sum % 128
       let kind := (a.getD 0 0).toNat / 16 % 8
       (sum ≠ c.toNat → t.player p = { ps with assembly := [], statusA := ps.statusA ||| 0x02 }) ∧
       (sum = c.toNat → 3 ≤ kind →
         t.player p = { ps with assembly := [], statusA := ps.statusA ||| 0x04 }) ∧
       (sum = c.toNat → kind = 0 →
         t.player p = { ps with assembly := [], received := some { kind := .sense, body := bodyFrom a } }) ∧
       (sum = c.toNat → kind = 1 →
         t.player p = { ps with assembly := [], received := some { kind := .hello, body := bodyFrom a } }) ∧
       (sum = c.toNat → kind = 2 →
         t.player p = { ps with assembly := [], received := some { kind := .learnReq, body := bodyFrom a } }))

/-! ### Replies -/

/-- R163, R165 to R167: in an OPEN slot the part sends the head of the reply queue, or a STATUS reply of the
player's live state where the queue is empty, echoing the frame's sequence number. -/
def Obligations.ReplySendStartSendsTheHead : Prop :=
  ∀ p seq s, (s.player p).slot = .opened seq →
    ∃ t chars, exec (.replySendStart p) s = .next t ∧
      t = { s with players := t.players, pulse := t.pulse, irqHigh := t.irqHigh } ∧ SameOthers p s t ∧
      t.player p = { s.player p with slot := .sending chars, replies := (s.player p).replies.tail } ∧
      (∀ r, (s.player p).replies.head? = some r →
        ReplyFrame r.fields.1 seq r.fields.2.1 r.fields.2.2.1 r.fields.2.2.2.1 r.fields.2.2.2.2 chars) ∧
      ((s.player p).replies = [] → ∃ code,
        (∀ n, (s.player p).note = some n →
          Indicates code ((s.player p).bend + (s.activeSetup p).layers[(0 : LayerId)].detune + s.tuning)) ∧
        ((s.player p).note = none → code = 0) ∧
        ReplyFrame 0 seq (((s.player p).note.map Note.number).getD 127)
          (code + 4 * (s.player p).latch.length)
          ((s.player p).breath.code + (if (s.player p).note = none then 4 else 0)
            + (if (s.player p).learn = none then 0 else 8))
          (s.player p).held chars)

/-- R163, R164: the slot becomes IDLE when the sixth character ends, when the instrument begins a character in
OPEN, and when it begins one in SENDING, which alone sets COLLISION. -/
def Obligations.ReplySlotEnds : Prop :=
  ∀ p s,
    (∀ x, (s.player p).slot = .sending x → ∃ t, exec (.replySent p) s = .next t ∧
      t = { s with players := t.players, pulse := t.pulse, irqHigh := t.irqHigh } ∧ SameOthers p s t ∧
      t.player p = { s.player p with slot := .idle }) ∧
    (∀ q, (s.player p).slot = .opened q → ∃ t, exec (.replySlotClosed p) s = .next t ∧
      t = { s with players := t.players, pulse := t.pulse, irqHigh := t.irqHigh } ∧ SameOthers p s t ∧
      t.player p = { s.player p with slot := .idle }) ∧
    (∀ x, (s.player p).slot = .sending x → ∃ t, exec (.collision p) s = .next t ∧
      t = { s with players := t.players, pulse := t.pulse, irqHigh := t.irqHigh } ∧ SameOthers p s t ∧
      t.player p = { s.player p with slot := .idle, statusA := (s.player p).statusA ||| 0x10 })

/-! ### Desk requests -/

/-- R104, R12, R115: PANIC fades every voice that is not FREE without a claim, ends every note and stack with
their records, and mutes the players that blow. -/
def Obligations.PanicFadesEverything : Prop :=
  ∀ arg s, Stands s .write 0x08 → ∃ t, exec (.panic arg) s = .next t ∧ PortMoved s t 0 id ∧
    t = { s with
      voices := t.voices, players := t.players, txn := t.txn, miso := t.miso, pulse := t.pulse,
      irqHigh := t.irqHigh } ∧
    (∀ v, (s.voice v).state = .free → t.voice v = s.voice v) ∧
    (∀ v, (s.voice v).state ≠ .free → t.voice v =
      { s.voice v with
        state := .fading, target := 0, claim := none, endReported := (t.voice v).endReported }) ∧
    ∀ p, t.player p =
      PlayerState.queuedAll
        { s.player p with
          note := none, latch := []
          breath := if (s.player p).breath = .quiet then .quiet else .muted }
        (noteOffRecords s p 4 ++ latchClearRecords s p 3)

/-- R50, R43, R57: RESTORE_CHART writes the reference image over the slot, removes its reservations and
preempts the learns that held one; other slots and learns stand. -/
def Obligations.RestoreChartWritesTheImage : Prop :=
  ∀ (n : ChartSlot) arg s, arg.toNat = n.val → Stands s .write 0x08 →
    ∃ t, exec (.restoreChart arg) s = .next t ∧ PortMoved s t 0 id ∧
      t = { s with
        charts := t.charts, players := t.players, txn := t.txn, miso := t.miso, pulse := t.pulse,
        irqHigh := t.irqHigh } ∧
      (∀ e : EntryId, t.entry n e = referenceChart[e]) ∧
      (∀ m e, m ≠ n → t.entry m e = s.entry m e) ∧
      (∀ p, (s.player p).learnsIn n = true → t.player p = preemptedRecord s p) ∧
      (∀ p, (s.player p).learnsIn n = false → t.player p = s.player p)

/-- R4, R173: ZERO_CAPTURE sets the named player's capture pending. A request whose argument names no slot or
no player is ignored. -/
def Obligations.ZeroCaptureAndBadArguments : Prop :=
  ∀ arg s, Stands s .write 0x08 →
    (∀ p : Player, arg.toNat = p.val → ∃ t, exec (.zeroCapture arg) s = .next t ∧ PortMoved s t 0 id ∧
      t = { s with
        players := t.players, txn := t.txn, miso := t.miso, pulse := t.pulse, irqHigh := t.irqHigh } ∧
      t.player p = { s.player p with capturePending := true } ∧ SameOthers p s t) ∧
    (∀ c, (c = .zeroCapture arg ∨ c = .linkReset arg) ∧ 4 ≤ arg.toNat ∨
        c = .restoreChart arg ∧ 8 ≤ arg.toNat →
      ∃ t, exec c s = .next t ∧ PortMoved s t 0 id ∧
        t = { s with txn := t.txn, miso := t.miso, pulse := t.pulse, irqHigh := t.irqHigh })

/-! ### Desk writes -/

/-- R47, R48, R57: bytes 0 to 6 of a chart entry are held; byte 7 writes the entry whole from held and stored
bytes, empties the holding buffer and preempts the learn that holds the entry. -/
def Obligations.ChartEntryWrites : Prop :=
  ∀ n e v s,
    (∀ b : Fin 7, Stands s .write (entryAddress n e b.val) →
      ∃ t, exec (.entryHoldingBufferWrite n e b v) s = .next t ∧
        PortMoved s t 0 (fun x => { x with hold := x.hold.set b (some v) }) ∧
        t = { s with txn := t.txn, miso := t.miso, pulse := t.pulse, irqHigh := t.irqHigh }) ∧
    (Stands s .write (entryAddress n e 7) → ∃ t, exec (.chartEntryFlagsWrite n e v) s = .next t ∧
      PortMoved s t 0 (fun x => { x with hold := Vector.replicate _ none }) ∧
      t = { s with
        charts := t.charts, players := t.players, txn := t.txn, miso := t.miso, pulse := t.pulse,
        irqHigh := t.irqHigh } ∧
      EntryStored ((s.txn.map Transaction.hold).getD (Vector.replicate _ none)) v (s.entry n e)
        (t.entry n e) ∧
      SameOtherEntries n e s t ∧
      (∀ p, (s.player p).learns n e = true → t.player p = preemptedRecord s p) ∧
      (∀ p, (s.player p).learns n e = false → t.player p = s.player p))

/-- R119, R125, R120: a master tuning write saturates to ±100 cents and recomputes the increment of every voice
that is not FREE from its own glide, interval, detune and bend. -/
def Obligations.MasterTuningRetunesVoices : Prop :=
  ∀ v s, Stands s .write 0x0B → ∃ t, exec (.masterTuningWrite v) s = .next t ∧ PortMoved s t 0 id ∧
    t = { s with
      tuning := max (-100) (min 100 v.toInt), voices := t.voices, txn := t.txn, miso := t.miso,
      pulse := t.pulse, irqHigh := t.irqHigh } ∧
    ∀ w, t.voice w =
      if (s.voice w).state = .free then s.voice w
      else { s.voice w with increment := incrementOf (max 0 (min 12799
        ((s.voice w).glideCurrent + 100 * (s.voice w).copies.interval + (s.voice w).copies.detune
          + (s.voice w).bend + max (-100) (min 100 v.toInt)))).toNat }

/-- R83: a reserve write stores the smallest of the value, 64 and what the other three reserves leave of 64. -/
def Obligations.ReserveWriteIsBounded : Prop :=
  ∀ p v s, Stands s .write (areaAddress p 0x02) → ∃ t, exec (.reserveWrite p v) s = .next t ∧
    PortMoved s t 0 id ∧
    t = { s with
      players := t.players, txn := t.txn, miso := t.miso, pulse := t.pulse, irqHigh := t.irqHigh } ∧
    t.player p = { s.player p with
      reserve := min (min v.toNat 64) (64 - ∑ q ∈ Finset.univ.erase p, (s.player q).reserve) } ∧
    SameOthers p s t

/-- R83, R150, R170, R178, R181, R182: a threshold write saturates to 15, a ceiling to 1 to 64; a mask byte
takes its named bits; mode and polarity take the value modulo 2, a rate write one of three rates. A write to a
read-only byte or to one that no field occupies, of a player area, of the control area or of a curve's block (R14),
to an unmapped address or a window, or of a request with an unknown code (R173), changes nothing but the port. -/
def Obligations.PortRegisterWrites : Prop :=
  ∀ v s,
    (∀ p, Stands s .write (areaAddress p 0x06) → ∃ t, exec (.queueThresholdWrite p v) s = .next t ∧
      PortMoved s t 0 id ∧ SameOthers p s t ∧
      t = { s with
        players := t.players, txn := t.txn, miso := t.miso, pulse := t.pulse, irqHigh := t.irqHigh } ∧
      t.player p = { s.player p with threshold := min v.toNat 15 }) ∧
    (∀ p, Stands s .write (areaAddress p 0x08) → ∃ t, exec (.maskWrite (.maskA p) v) s = .next t ∧
      PortMoved s t 0 id ∧ SameOthers p s t ∧
      t = { s with
        players := t.players, txn := t.txn, miso := t.miso, pulse := t.pulse, irqHigh := t.irqHigh } ∧
      t.player p = { s.player p with maskA := v }) ∧
    (∀ p, Stands s .write (areaAddress p 0x09) → ∃ t, exec (.maskWrite (.maskB p) v) s = .next t ∧
      PortMoved s t 0 id ∧ SameOthers p s t ∧
      t = { s with
        players := t.players, txn := t.txn, miso := t.miso, pulse := t.pulse, irqHigh := t.irqHigh } ∧
      t.player p = { s.player p with maskB := v &&& 0x07 }) ∧
    (Stands s .write 0x19 → ∃ t, exec (.maskWrite .global v) s = .next t ∧ PortMoved s t 0 id ∧
      t = { s with
        globalMask := v &&& 0x03, txn := t.txn, miso := t.miso, pulse := t.pulse, irqHigh := t.irqHigh }) ∧
    (Stands s .write 0x09 → ∃ t, exec (.interruptModeWrite v) s = .next t ∧ PortMoved s t 0 id ∧
      t = { s with
        intMode := if v.getLsbD 0 then .edge else .level, txn := t.txn, miso := t.miso, pulse := t.pulse,
        irqHigh := t.irqHigh }) ∧
    (Stands s .write 0x0A → ∃ t, exec (.interruptPolarityWrite v) s = .next t ∧ PortMoved s t 0 id ∧
      t = { s with
        intPolarity := if v.getLsbD 0 then .activeHigh else .activeLow, txn := t.txn, miso := t.miso,
        pulse := t.pulse, irqHigh := t.irqHigh }) ∧
    (∀ p, Stands s .write (areaAddress p 0x03) → ∃ t, exec (.deskWrite (areaAddress p 0x03) v) s = .next t ∧
      PortMoved s t 0 id ∧ SameOthers p s t ∧
      t = { s with
        players := t.players, txn := t.txn, miso := t.miso, pulse := t.pulse, irqHigh := t.irqHigh } ∧
      t.player p = { s.player p with ceiling := max 1 (min v.toNat 64) }) ∧
    (∀ p, Stands s .write (areaAddress p 0x01) → ∃ t, exec (.deskWrite (areaAddress p 0x01) v) s = .next t ∧
      PortMoved s t 0 id ∧ SameOthers p s t ∧
      t = { s with
        players := t.players, txn := t.txn, miso := t.miso, pulse := t.pulse, irqHigh := t.irqHigh } ∧
      t.player p = { s.player p with
        configuredRate := if v = 0 then .r250 else if v = 1 then .r500 else .r1000 }) ∧
    (∀ a, Stands s .write a →
      (placeOf a = .unmapped ∨ (∃ p, placeOf a = .window p) ∨
        (∃ p off, placeOf a = .area p off ∧ (off = 0x07 ∨ 0x0A ≤ off)) ∨
        (∃ off, placeOf a = .control off ∧ (off < 0x08 ∨ 0x16 ≤ off ∧ off ≠ 0x19)) ∨
        (∃ n off, placeOf a = .curve n off ∧ 34 ≤ off) ∨
        a = 0x08 ∧ (v.toNat / 16 = 0 ∨ 6 ≤ v.toNat / 16)) →
      ∃ t, exec (.deskWrite a v) s = .next t ∧ PortMoved s t 0 id ∧
        t = { s with txn := t.txn, miso := t.miso, pulse := t.pulse, irqHigh := t.irqHigh })

/-- R171: a low byte of a sixteen-bit field is held for that field, in place of any held before, and the field
itself is unchanged. -/
def Obligations.LowByteIsHeld : Prop :=
  ∀ a v s, IsLowByte a → Stands s .write a → ∃ t, exec (.deskWrite a v) s = .next t ∧
    PortMoved s t 0 id ∧
    t = { s with
      heldLow := some (a, v), txn := t.txn, miso := t.miso, pulse := t.pulse, irqHigh := t.irqHigh }

/-- R143, R171, R144: the high byte of a wave entry writes the entry's two bytes, the low one from the held low
byte or the stored one; every other byte of the wave store reads as before. -/
def Obligations.WaveEntryWrite : Prop :=
  ∀ a v s, 0x2000 ≤ a.toNat → a.toNat < 0x4000 → a.toNat % 2 = 1 → WavesCanonical s → Stands s .write a →
    ∃ t, exec (.deskWrite a v) s = .next t ∧ PortMoved s t 0 id ∧
      t = { s with
        waves := t.waves, heldLow := heldAfter s a, txn := t.txn, miso := t.miso, pulse := t.pulse,
        irqHigh := t.irqHigh } ∧
      256 * (Memory.read t.waves a.toNat).toNat + (Memory.read t.waves (a.toNat - 1)).toNat =
        fieldValue s a (Memory.read s.waves (a.toNat - 1)) v ∧
      ∀ b, b ≠ a.toNat → b ≠ a.toNat - 1 → Memory.read t.waves b = Memory.read s.waves b

/-- R171, R3, R14, R65, R67, R146: the high byte of a gain, a zero offset, a curve point or a setup threshold or
step makes the field take effect, saturated as its own rule says. -/
def Obligations.HighByteCommitsTheField : Prop :=
  ∀ v s,
    (Stands s .write 0x0D → ∃ t, exec (.deskWrite 0x0D v) s = .next t ∧ PortMoved s t 0 id ∧
      t = { s with
        masterGain := min (fieldValue s 0x0D (BitVec.ofNat 8 s.masterGain) v) 1023,
        heldLow := heldAfter s 0x0D, txn := t.txn, miso := t.miso, pulse := t.pulse, irqHigh := t.irqHigh }) ∧
    (∀ p : Player, Stands s .write (controlAddress (0x0F + 2 * p.val)) →
      ∃ t, exec (.deskWrite (controlAddress (0x0F + 2 * p.val)) v) s = .next t ∧ PortMoved s t 0 id ∧
        t = { s with
          directGains := s.directGains.set p (min (fieldValue s (controlAddress (0x0F + 2 * p.val))
            (BitVec.ofNat 8 s.directGains[p]) v) 1023),
          heldLow := heldAfter s (controlAddress (0x0F + 2 * p.val)), txn := t.txn, miso := t.miso,
          pulse := t.pulse, irqHigh := t.irqHigh }) ∧
    (∀ p, Stands s .write (areaAddress p 0x05) → ∃ t, exec (.deskWrite (areaAddress p 0x05) v) s = .next t ∧
      PortMoved s t 0 id ∧ SameOthers p s t ∧
      t = { s with
        players := t.players, heldLow := heldAfter s (areaAddress p 0x05), txn := t.txn, miso := t.miso,
        pulse := t.pulse, irqHigh := t.irqHigh } ∧
      t.player p = { s.player p with
        zeroOffset :=
          min (fieldValue s (areaAddress p 0x05) (BitVec.ofNat 8 (s.player p).zeroOffset) v) 4095 }) ∧
    (∀ (c : CurveId) (i : Fin Config.numPoints), Stands s .write (curveAddress c (2 * i.val + 1)) →
      ∃ t, exec (.deskWrite (curveAddress c (2 * i.val + 1)) v) s = .next t ∧ PortMoved s t 0 id ∧
        t = { s with
          curves := s.curves.set c (s.curves[c].set i
            (min (fieldValue s (curveAddress c (2 * i.val + 1)) (BitVec.ofNat 8 s.curves[c][i]) v) 1023)),
          heldLow := heldAfter s (curveAddress c (2 * i.val + 1)), txn := t.txn, miso := t.miso,
          pulse := t.pulse, irqHigh := t.irqHigh }) ∧
    (∀ (n : SetupId) k, k ∈ setupHalfOffsets → Stands s .write (setupAddress n (k + 1)) →
      ∃ t, exec (.deskWrite (setupAddress n (k + 1)) v) s = .next t ∧ PortMoved s t 0 id ∧
        t = { s with
          setups := t.setups, heldLow := heldAfter s (setupAddress n (k + 1)), txn := t.txn, miso := t.miso,
          pulse := t.pulse, irqHigh := t.irqHigh } ∧
        (∀ m, m ≠ n → t.setup m = s.setup m) ∧
        t.setup n = setupFieldAfter k (fieldValue s (setupAddress n (k + 1)) ((s.setup n).byte k) v) (s.setup n))

/-- R63 to R71: a byte written to a one-byte place of a setup reads back saturated or selected as its field's
row says, and every other byte of the setup table reads as before. -/
def Obligations.SetupBytesReadBack : Prop :=
  ∀ (n : SetupId) (off : Fin 128) v s,
    off.val ∉ setupHalfOffsets → (∀ k ∈ setupHalfOffsets, off.val ≠ k + 1) →
    Stands s .write (setupAddress n off) →
    ∃ t, exec (.deskWrite (setupAddress n off) v) s = .next t ∧ PortMoved s t 0 id ∧
      t = { s with
        setups := t.setups, txn := t.txn, miso := t.miso, pulse := t.pulse, irqHigh := t.irqHigh } ∧
      (t.setup n).byte off = setupByteAfter off v ∧
      (∀ k : Fin 128, k ≠ off → (t.setup n).byte k = (s.setup n).byte k) ∧
      ∀ m, m ≠ n → t.setup m = s.setup m

/-- R170, R71, R46, R143: each unit of more than one byte lies at its base in the map, and the address after a data
byte in it is one byte on, or the unit's first byte after its last; a window and an unmapped address do not
advance. -/
def Obligations.AddressesWrapWithinTheirUnit : Prop :=
  ∀ a, SameUnit (placeOf a) (placeOf (nextAddress a)) ∧
    (∀ base, unitBase (placeOf a) = some base →
      a.toNat = base + unitOffset (placeOf a) ∧ unitOffset (placeOf a) < unitSize (placeOf a) ∧
      (unitOffset (placeOf a) + 1 < unitSize (placeOf a) → nextAddress a = a + 1) ∧
      (unitOffset (placeOf a) + 1 = unitSize (placeOf a) → (nextAddress a).toNat = base)) ∧
    ((placeOf a = .unmapped ∨ ∃ p, placeOf a = .window p) ↔ nextAddress a = a)

/-! ### Transactions and desk reads -/

/-- R169, R48, R171: a transaction begins by its operation byte at its address, with nothing held, the port having
returned 0 three times, and a byte that is neither code makes it void; its end discards the entry holding buffer and
the captured level and keeps the held low byte. A void transaction's bytes return 0 and change nothing else. A read
transaction has taken its first byte as its address ends, and the next byte as each byte ends: from there the byte
counts as read, though the transaction end (log 11). `ByteTaken` says what that returns and changes at every place of
the map (R14, R49, R71, R143, R170, R172, R175, R179, R180, R186, R187). A plain read is the byte that DESK_WRITE
exchanges in a read transaction (the model's choice, log 8). -/
def Obligations.TransactionsBeginAndEnd : Prop :=
  ∀ s,
    (∀ op a, s.txn = none → op ≠ 0x6B → ∃ t, exec (.transactionStart op a) s = .next t ∧
      t = { s with
        txn := some (opened (if op = 0x6A then .write else .void) a), miso := [0, 0, 0], pulse := t.pulse,
        irqHigh := t.irqHigh }) ∧
    (∀ a, s.txn = none → ∃ t, exec (.transactionStart 0x6B a) s = .next t ∧ t.miso = [0, 0, 0] ∧
      ByteTaken s (opened .read a) t) ∧
    (∃ t, exec .transactionEnd s = .next t ∧
      t = { s with txn := none, pulse := t.pulse, irqHigh := t.irqHigh }) ∧
    (∀ x a v, s.txn = some x → x.op = .void → ∃ t, exec (.deskWrite a v) s = .next t ∧
      PortMoved s t 0 id ∧
      t = { s with txn := t.txn, miso := t.miso, pulse := t.pulse, irqHigh := t.irqHigh }) ∧
    (∀ x v, s.txn = some x → x.op = .read →
      ∃ t, exec (.deskWrite x.addr v) s = .next t ∧ ReadClocked s x t)

/-- R179, R185: as the address of a read transaction at a window ends, the queue count is taken and the head record
moves into the read buffer; each byte clocked out after that takes one of the record's ten bytes and changes the
queue no more, and later ones return 0. With no transaction in progress the command is a whole window read of eleven
bytes (the model's choice, log 7). -/
def Obligations.EventWindowReads : Prop :=
  ∀ p s,
    (s.txn = none → ∃ t, exec (.transactionStart 0x6B (windowAddress p)) s = .next t ∧
      t.txn = some { opened .read (windowAddress p) with out := BitVec.ofNat 8 (s.player p).events.length } ∧
      t.player p = (s.player p).popped) ∧
    (∀ x, s.txn = some x → x.op = .read → x.addr = windowAddress p →
      ∃ t, exec (.eventWindowRead p) s = .next t ∧
        t = { s with
          miso := s.miso ++ [x.out], pulse := t.pulse, irqHigh := t.irqHigh,
          txn := some { x with
            count := x.count + 1, out := if x.count < 10 then (s.player p).windowByte x.count else 0 } }) ∧
    (s.txn = none → ∃ t, exec (.eventWindowRead p) s = .next t ∧ SameOthers p s t ∧
      t = { s with players := t.players, miso := t.miso, pulse := t.pulse, irqHigh := t.irqHigh } ∧
      t.player p = (s.player p).popped ∧
      t.miso = [0, 0, 0, BitVec.ofNat 8 (s.player p).events.length] ++
        (List.range 10).map fun k => (s.player p).popped.windowByte k)

/-- R180, R171: a read of a status byte returns it and clears the sticky flags it returns as set, but LINK_LOST
while the link is LOST; live flags stay. A read of the breath level's low byte captures its high part, and a read of
the high byte in the same transaction returns the captured part; with none captured it returns the level as it
stands. In a read transaction that stands at such a byte the command clocks out the byte taken ahead, whose effect
came as it was taken, and the next byte is taken (R169; log 11). With no transaction in progress the command is a
transaction of that one byte and takes no other (the model's choice, log 7). -/
def Obligations.StatusAndLevelReads : Prop :=
  (∀ s b x, s.txn = some x → x.op = .read → x.addr = statusAddress b →
    ∃ t, exec (.statusRead b) s = .next t ∧ ReadClocked s x t) ∧
  (∀ s p h x, s.txn = some x → x.op = .read → x.addr = levelAddress p h →
    ∃ t, exec (.breathLevelRead p h) s = .next t ∧ ReadClocked s x t) ∧
  (∀ s, s.txn = none →
     (∀ p, ∃ t, exec (.statusRead (.statusA p)) s = .next t ∧ SameOthers p s t ∧
       t = { s with
         players := t.players, miso := [0, 0, 0, (s.player p).statusA], pulse := t.pulse,
         irqHigh := t.irqHigh } ∧
       t.player p = { s.player p with
         statusA := if (s.player p).link = .lost then (s.player p).statusA &&& 0x20 else 0 }) ∧
     (∀ p, ∃ t, exec (.statusRead (.statusB p)) s = .next t ∧
       (∃ b : Byte, t.miso = [0, 0, 0, b] ∧ b.getLsbD 0 = (s.player p).denied ∧
         (b.getLsbD 1 = true ↔ 2 * (s.player p).threshold + 1 < (s.player p).events.length) ∧
         (b.getLsbD 2 = true ↔ (s.player p).events.length = 32) ∧ b.toNat < 8) ∧
       SameOthers p s t ∧
       t = { s with players := t.players, miso := t.miso, pulse := t.pulse, irqHigh := t.irqHigh } ∧
       t.player p = { s.player p with denied := false }) ∧
     (∃ t, exec (.statusRead .global) s = .next t ∧
       (∃ b : Byte, t.miso = [0, 0, 0, b] ∧ b.getLsbD 0 = s.clipMain ∧ b.getLsbD 1 = s.clipDirect ∧
         b.toNat < 4) ∧
       t = { s with
         clipMain := false, clipDirect := false, miso := t.miso, pulse := t.pulse, irqHigh := t.irqHigh }) ∧
     (∀ p, ∃ t, exec (.breathLevelRead p .low) s = .next t ∧
       t = { s with
         miso := [0, 0, 0, BitVec.ofNat 8 ((s.player p).level % 256)], pulse := t.pulse,
         irqHigh := t.irqHigh }) ∧
     (∀ p, ∃ t, exec (.breathLevelRead p .high) s = .next t ∧
       t = { s with
         miso := [0, 0, 0, BitVec.ofNat 8 ((s.player p).level / 256)], pulse := t.pulse,
         irqHigh := t.irqHigh }))

/-! ### Arithmetic -/

/-- R15, R16: the curve level lies between the two points of its segment and is the point itself at a multiple
of 256; smoothing moves the level toward the curve level without passing it, by at least one where they
differ, and the whole way at factor 16. -/
def Obligations.BreathLevelFollowsTheCurve : Prop :=
  (∀ (c : Curve) (seg f : Nat), seg < 16 → f < 256 →
    (∃ lo hi, c.toList[seg]? = some lo ∧ c.toList[seg + 1]? = some hi ∧
      min lo hi ≤ curveLevel c (256 * seg + f) ∧ curveLevel c (256 * seg + f) ≤ max lo hi ∧
      (f = 0 → curveLevel c (256 * seg + f) = lo))) ∧
  (∀ k level goal, 1 ≤ k → k ≤ 16 →
    (level < goal → level < smooth k level goal ∧ smooth k level goal ≤ goal) ∧
    (goal < level → goal ≤ smooth k level goal ∧ smooth k level goal < level) ∧
    smooth k goal goal = goal ∧ smooth 16 level goal = goal)

/-- R38, R39: a note sum inside the range is unchanged and plain; one outside a range of span 11 or more is
folded by the fewest whole octaves that bring it inside, and one outside a narrower range is clamped to the
nearer bound; the bounds may stand swapped. -/
def Obligations.NoteSumsFoldOrClampIntoRange : Prop :=
  ∀ (st : Setup) (sum : Int), ∃ n flag, rangeFit st sum = .matched n flag ∧
    let lo : Int := min st.rangeLow st.rangeHigh
    let hi : Int := max st.rangeLow st.rangeHigh
    lo ≤ n ∧ n ≤ hi ∧
    (lo ≤ sum → sum ≤ hi → (n : Int) = sum ∧ flag = .plain) ∧
    (11 ≤ hi - lo → sum < lo →
      flag = .folded ∧ (∃ k : Int, (n : Int) = sum + 12 * k) ∧ (n : Int) < lo + 12) ∧
    (11 ≤ hi - lo → hi < sum →
      flag = .folded ∧ (∃ k : Int, (n : Int) = sum - 12 * k) ∧ hi - 12 < n) ∧
    (hi - lo < 11 → sum < lo → flag = .clamped ∧ (n : Int) = lo) ∧
    (hi - lo < 11 → hi < sum → flag = .clamped ∧ (n : Int) = hi)

/-- R34: the lookup gives the first valid entry that matches on every key of its care set, and none where no
entry does. -/
def Obligations.LookupTakesTheFirstMatch : Prop :=
  ∀ (c : Chart) (keys : KeySet),
    (∀ x, lookupChart c keys = some x ↔
      ∃ e : EntryId, chartEntry c e = x ∧ Matches x keys ∧ ∀ d < e, ¬Matches (chartEntry c d) keys) ∧
    (lookupChart c keys = none ↔ ∀ e, ¬Matches (chartEntry c e) keys)

/-- R127, R128: SEMI and CENT are 65,536 times 2 to the i/12 and to the r/1200, rounded to nearest: each entry
lies within one half of the root, by powers of integers. CENT rises by 37 to 40 an entry. -/
def Obligations.PitchTablesAreRoundedRoots : Prop :=
  semiTable.length = 12 ∧ centTable.length = 100 ∧
  (∀ i x, semiTable[i]? = some x →
    (2 * x - 1) ^ 12 < 131072 ^ 12 * 2 ^ i ∧ 131072 ^ 12 * 2 ^ i < (2 * x + 1) ^ 12) ∧
  (∀ r x, centTable[r]? = some x →
    (2 * x - 1) ^ 1200 < 131072 ^ 1200 * 2 ^ r ∧ 131072 ^ 1200 * 2 ^ r < (2 * x + 1) ^ 1200) ∧
  (∀ r x y, centTable[r]? = some x → centTable[r + 1]? = some y → x + 37 ≤ y ∧ y ≤ x + 40)

/-- R126: the increment rises or stays level with the pitch, from 731,558 at pitch 0 to 1,188,459,520 at
12,799. -/
def Obligations.IncrementsRiseWithPitch : Prop :=
  incrementOf 0 = 731558 ∧ incrementOf 12799 = 1188459520 ∧
  ∀ a b, a ≤ b → b ≤ 12799 → incrementOf a ≤ incrementOf b
end

