-- ==== Sys2Proof/Laws/State.lean ====
section
/-! SUPPORT. What each update of the state leaves in each field, and what the accessors read after it. -/

namespace Sys2Proof.Machine

/-! ### Vectors -/

@[simp] theorem mapVector_getElem {α β : Type} {n : Nat} (f : α → β) (v : Vector α n) (i : Nat) (h : i < n) :
    (mapVector f v)[i] = f v[i] := by
  simp [mapVector]

@[simp] theorem mapVector_getElem_fin {α β : Type} {n : Nat} (f : α → β) (v : Vector α n) (i : Fin n) :
    (mapVector f v)[i] = f v[i] := mapVector_getElem f v i.val i.isLt

/-! ### `State.modPlayer` -/

@[simp] theorem State.modPlayer_pending (s : State) (p : Player) (f : PlayerState → PlayerState) : (s.modPlayer p f).pending = s.pending := rfl
@[simp] theorem State.modPlayer_sampleCount (s : State) (p : Player) (f : PlayerState → PlayerState) : (s.modPlayer p f).sampleCount = s.sampleCount := rfl
@[simp] theorem State.modPlayer_voices (s : State) (p : Player) (f : PlayerState → PlayerState) : (s.modPlayer p f).voices = s.voices := rfl
@[simp] theorem State.modPlayer_freeQueue (s : State) (p : Player) (f : PlayerState → PlayerState) : (s.modPlayer p f).freeQueue = s.freeQueue := rfl
@[simp] theorem State.modPlayer_stampCounter (s : State) (p : Player) (f : PlayerState → PlayerState) : (s.modPlayer p f).stampCounter = s.stampCounter := rfl
@[simp] theorem State.modPlayer_setups (s : State) (p : Player) (f : PlayerState → PlayerState) : (s.modPlayer p f).setups = s.setups := rfl
@[simp] theorem State.modPlayer_curves (s : State) (p : Player) (f : PlayerState → PlayerState) : (s.modPlayer p f).curves = s.curves := rfl
@[simp] theorem State.modPlayer_charts (s : State) (p : Player) (f : PlayerState → PlayerState) : (s.modPlayer p f).charts = s.charts := rfl
@[simp] theorem State.modPlayer_waves (s : State) (p : Player) (f : PlayerState → PlayerState) : (s.modPlayer p f).waves = s.waves := rfl
@[simp] theorem State.modPlayer_tuning (s : State) (p : Player) (f : PlayerState → PlayerState) : (s.modPlayer p f).tuning = s.tuning := rfl
@[simp] theorem State.modPlayer_masterGain (s : State) (p : Player) (f : PlayerState → PlayerState) : (s.modPlayer p f).masterGain = s.masterGain := rfl
@[simp] theorem State.modPlayer_directGains (s : State) (p : Player) (f : PlayerState → PlayerState) : (s.modPlayer p f).directGains = s.directGains := rfl
@[simp] theorem State.modPlayer_clipMain (s : State) (p : Player) (f : PlayerState → PlayerState) : (s.modPlayer p f).clipMain = s.clipMain := rfl
@[simp] theorem State.modPlayer_clipDirect (s : State) (p : Player) (f : PlayerState → PlayerState) : (s.modPlayer p f).clipDirect = s.clipDirect := rfl
@[simp] theorem State.modPlayer_samples (s : State) (p : Player) (f : PlayerState → PlayerState) : (s.modPlayer p f).samples = s.samples := rfl
@[simp] theorem State.modPlayer_audioFrame (s : State) (p : Player) (f : PlayerState → PlayerState) : (s.modPlayer p f).audioFrame = s.audioFrame := rfl
@[simp] theorem State.modPlayer_intMode (s : State) (p : Player) (f : PlayerState → PlayerState) : (s.modPlayer p f).intMode = s.intMode := rfl
@[simp] theorem State.modPlayer_intPolarity (s : State) (p : Player) (f : PlayerState → PlayerState) : (s.modPlayer p f).intPolarity = s.intPolarity := rfl
@[simp] theorem State.modPlayer_globalMask (s : State) (p : Player) (f : PlayerState → PlayerState) : (s.modPlayer p f).globalMask = s.globalMask := rfl
@[simp] theorem State.modPlayer_pulse (s : State) (p : Player) (f : PlayerState → PlayerState) : (s.modPlayer p f).pulse = s.pulse := rfl
@[simp] theorem State.modPlayer_irqHigh (s : State) (p : Player) (f : PlayerState → PlayerState) : (s.modPlayer p f).irqHigh = s.irqHigh := rfl
@[simp] theorem State.modPlayer_heldLow (s : State) (p : Player) (f : PlayerState → PlayerState) : (s.modPlayer p f).heldLow = s.heldLow := rfl
@[simp] theorem State.modPlayer_txn (s : State) (p : Player) (f : PlayerState → PlayerState) : (s.modPlayer p f).txn = s.txn := rfl
@[simp] theorem State.modPlayer_miso (s : State) (p : Player) (f : PlayerState → PlayerState) : (s.modPlayer p f).miso = s.miso := rfl

/-! ### `State.modPlayers` -/

@[simp] theorem State.modPlayers_pending (s : State) (f : PlayerState → PlayerState) : (s.modPlayers f).pending = s.pending := rfl
@[simp] theorem State.modPlayers_sampleCount (s : State) (f : PlayerState → PlayerState) : (s.modPlayers f).sampleCount = s.sampleCount := rfl
@[simp] theorem State.modPlayers_voices (s : State) (f : PlayerState → PlayerState) : (s.modPlayers f).voices = s.voices := rfl
@[simp] theorem State.modPlayers_freeQueue (s : State) (f : PlayerState → PlayerState) : (s.modPlayers f).freeQueue = s.freeQueue := rfl
@[simp] theorem State.modPlayers_stampCounter (s : State) (f : PlayerState → PlayerState) : (s.modPlayers f).stampCounter = s.stampCounter := rfl
@[simp] theorem State.modPlayers_setups (s : State) (f : PlayerState → PlayerState) : (s.modPlayers f).setups = s.setups := rfl
@[simp] theorem State.modPlayers_curves (s : State) (f : PlayerState → PlayerState) : (s.modPlayers f).curves = s.curves := rfl
@[simp] theorem State.modPlayers_charts (s : State) (f : PlayerState → PlayerState) : (s.modPlayers f).charts = s.charts := rfl
@[simp] theorem State.modPlayers_waves (s : State) (f : PlayerState → PlayerState) : (s.modPlayers f).waves = s.waves := rfl
@[simp] theorem State.modPlayers_tuning (s : State) (f : PlayerState → PlayerState) : (s.modPlayers f).tuning = s.tuning := rfl
@[simp] theorem State.modPlayers_masterGain (s : State) (f : PlayerState → PlayerState) : (s.modPlayers f).masterGain = s.masterGain := rfl
@[simp] theorem State.modPlayers_directGains (s : State) (f : PlayerState → PlayerState) : (s.modPlayers f).directGains = s.directGains := rfl
@[simp] theorem State.modPlayers_clipMain (s : State) (f : PlayerState → PlayerState) : (s.modPlayers f).clipMain = s.clipMain := rfl
@[simp] theorem State.modPlayers_clipDirect (s : State) (f : PlayerState → PlayerState) : (s.modPlayers f).clipDirect = s.clipDirect := rfl
@[simp] theorem State.modPlayers_samples (s : State) (f : PlayerState → PlayerState) : (s.modPlayers f).samples = s.samples := rfl
@[simp] theorem State.modPlayers_audioFrame (s : State) (f : PlayerState → PlayerState) : (s.modPlayers f).audioFrame = s.audioFrame := rfl
@[simp] theorem State.modPlayers_intMode (s : State) (f : PlayerState → PlayerState) : (s.modPlayers f).intMode = s.intMode := rfl
@[simp] theorem State.modPlayers_intPolarity (s : State) (f : PlayerState → PlayerState) : (s.modPlayers f).intPolarity = s.intPolarity := rfl
@[simp] theorem State.modPlayers_globalMask (s : State) (f : PlayerState → PlayerState) : (s.modPlayers f).globalMask = s.globalMask := rfl
@[simp] theorem State.modPlayers_pulse (s : State) (f : PlayerState → PlayerState) : (s.modPlayers f).pulse = s.pulse := rfl
@[simp] theorem State.modPlayers_irqHigh (s : State) (f : PlayerState → PlayerState) : (s.modPlayers f).irqHigh = s.irqHigh := rfl
@[simp] theorem State.modPlayers_heldLow (s : State) (f : PlayerState → PlayerState) : (s.modPlayers f).heldLow = s.heldLow := rfl
@[simp] theorem State.modPlayers_txn (s : State) (f : PlayerState → PlayerState) : (s.modPlayers f).txn = s.txn := rfl
@[simp] theorem State.modPlayers_miso (s : State) (f : PlayerState → PlayerState) : (s.modPlayers f).miso = s.miso := rfl

/-! ### `State.modVoice` -/

@[simp] theorem State.modVoice_pending (s : State) (v : VoiceId) (f : Voice → Voice) : (s.modVoice v f).pending = s.pending := rfl
@[simp] theorem State.modVoice_sampleCount (s : State) (v : VoiceId) (f : Voice → Voice) : (s.modVoice v f).sampleCount = s.sampleCount := rfl
@[simp] theorem State.modVoice_freeQueue (s : State) (v : VoiceId) (f : Voice → Voice) : (s.modVoice v f).freeQueue = s.freeQueue := rfl
@[simp] theorem State.modVoice_stampCounter (s : State) (v : VoiceId) (f : Voice → Voice) : (s.modVoice v f).stampCounter = s.stampCounter := rfl
@[simp] theorem State.modVoice_players (s : State) (v : VoiceId) (f : Voice → Voice) : (s.modVoice v f).players = s.players := rfl
@[simp] theorem State.modVoice_setups (s : State) (v : VoiceId) (f : Voice → Voice) : (s.modVoice v f).setups = s.setups := rfl
@[simp] theorem State.modVoice_curves (s : State) (v : VoiceId) (f : Voice → Voice) : (s.modVoice v f).curves = s.curves := rfl
@[simp] theorem State.modVoice_charts (s : State) (v : VoiceId) (f : Voice → Voice) : (s.modVoice v f).charts = s.charts := rfl
@[simp] theorem State.modVoice_waves (s : State) (v : VoiceId) (f : Voice → Voice) : (s.modVoice v f).waves = s.waves := rfl
@[simp] theorem State.modVoice_tuning (s : State) (v : VoiceId) (f : Voice → Voice) : (s.modVoice v f).tuning = s.tuning := rfl
@[simp] theorem State.modVoice_masterGain (s : State) (v : VoiceId) (f : Voice → Voice) : (s.modVoice v f).masterGain = s.masterGain := rfl
@[simp] theorem State.modVoice_directGains (s : State) (v : VoiceId) (f : Voice → Voice) : (s.modVoice v f).directGains = s.directGains := rfl
@[simp] theorem State.modVoice_clipMain (s : State) (v : VoiceId) (f : Voice → Voice) : (s.modVoice v f).clipMain = s.clipMain := rfl
@[simp] theorem State.modVoice_clipDirect (s : State) (v : VoiceId) (f : Voice → Voice) : (s.modVoice v f).clipDirect = s.clipDirect := rfl
@[simp] theorem State.modVoice_samples (s : State) (v : VoiceId) (f : Voice → Voice) : (s.modVoice v f).samples = s.samples := rfl
@[simp] theorem State.modVoice_audioFrame (s : State) (v : VoiceId) (f : Voice → Voice) : (s.modVoice v f).audioFrame = s.audioFrame := rfl
@[simp] theorem State.modVoice_intMode (s : State) (v : VoiceId) (f : Voice → Voice) : (s.modVoice v f).intMode = s.intMode := rfl
@[simp] theorem State.modVoice_intPolarity (s : State) (v : VoiceId) (f : Voice → Voice) : (s.modVoice v f).intPolarity = s.intPolarity := rfl
@[simp] theorem State.modVoice_globalMask (s : State) (v : VoiceId) (f : Voice → Voice) : (s.modVoice v f).globalMask = s.globalMask := rfl
@[simp] theorem State.modVoice_pulse (s : State) (v : VoiceId) (f : Voice → Voice) : (s.modVoice v f).pulse = s.pulse := rfl
@[simp] theorem State.modVoice_irqHigh (s : State) (v : VoiceId) (f : Voice → Voice) : (s.modVoice v f).irqHigh = s.irqHigh := rfl
@[simp] theorem State.modVoice_heldLow (s : State) (v : VoiceId) (f : Voice → Voice) : (s.modVoice v f).heldLow = s.heldLow := rfl
@[simp] theorem State.modVoice_txn (s : State) (v : VoiceId) (f : Voice → Voice) : (s.modVoice v f).txn = s.txn := rfl
@[simp] theorem State.modVoice_miso (s : State) (v : VoiceId) (f : Voice → Voice) : (s.modVoice v f).miso = s.miso := rfl

/-! ### `State.modVoices` -/

@[simp] theorem State.modVoices_pending (s : State) (f : Voice → Voice) : (s.modVoices f).pending = s.pending := rfl
@[simp] theorem State.modVoices_sampleCount (s : State) (f : Voice → Voice) : (s.modVoices f).sampleCount = s.sampleCount := rfl
@[simp] theorem State.modVoices_freeQueue (s : State) (f : Voice → Voice) : (s.modVoices f).freeQueue = s.freeQueue := rfl
@[simp] theorem State.modVoices_stampCounter (s : State) (f : Voice → Voice) : (s.modVoices f).stampCounter = s.stampCounter := rfl
@[simp] theorem State.modVoices_players (s : State) (f : Voice → Voice) : (s.modVoices f).players = s.players := rfl
@[simp] theorem State.modVoices_setups (s : State) (f : Voice → Voice) : (s.modVoices f).setups = s.setups := rfl
@[simp] theorem State.modVoices_curves (s : State) (f : Voice → Voice) : (s.modVoices f).curves = s.curves := rfl
@[simp] theorem State.modVoices_charts (s : State) (f : Voice → Voice) : (s.modVoices f).charts = s.charts := rfl
@[simp] theorem State.modVoices_waves (s : State) (f : Voice → Voice) : (s.modVoices f).waves = s.waves := rfl
@[simp] theorem State.modVoices_tuning (s : State) (f : Voice → Voice) : (s.modVoices f).tuning = s.tuning := rfl
@[simp] theorem State.modVoices_masterGain (s : State) (f : Voice → Voice) : (s.modVoices f).masterGain = s.masterGain := rfl
@[simp] theorem State.modVoices_directGains (s : State) (f : Voice → Voice) : (s.modVoices f).directGains = s.directGains := rfl
@[simp] theorem State.modVoices_clipMain (s : State) (f : Voice → Voice) : (s.modVoices f).clipMain = s.clipMain := rfl
@[simp] theorem State.modVoices_clipDirect (s : State) (f : Voice → Voice) : (s.modVoices f).clipDirect = s.clipDirect := rfl
@[simp] theorem State.modVoices_samples (s : State) (f : Voice → Voice) : (s.modVoices f).samples = s.samples := rfl
@[simp] theorem State.modVoices_audioFrame (s : State) (f : Voice → Voice) : (s.modVoices f).audioFrame = s.audioFrame := rfl
@[simp] theorem State.modVoices_intMode (s : State) (f : Voice → Voice) : (s.modVoices f).intMode = s.intMode := rfl
@[simp] theorem State.modVoices_intPolarity (s : State) (f : Voice → Voice) : (s.modVoices f).intPolarity = s.intPolarity := rfl
@[simp] theorem State.modVoices_globalMask (s : State) (f : Voice → Voice) : (s.modVoices f).globalMask = s.globalMask := rfl
@[simp] theorem State.modVoices_pulse (s : State) (f : Voice → Voice) : (s.modVoices f).pulse = s.pulse := rfl
@[simp] theorem State.modVoices_irqHigh (s : State) (f : Voice → Voice) : (s.modVoices f).irqHigh = s.irqHigh := rfl
@[simp] theorem State.modVoices_heldLow (s : State) (f : Voice → Voice) : (s.modVoices f).heldLow = s.heldLow := rfl
@[simp] theorem State.modVoices_txn (s : State) (f : Voice → Voice) : (s.modVoices f).txn = s.txn := rfl
@[simp] theorem State.modVoices_miso (s : State) (f : Voice → Voice) : (s.modVoices f).miso = s.miso := rfl

/-! ### `State.modEntry` -/

@[simp] theorem State.modEntry_pending (s : State) (n : ChartSlot) (e : EntryId) (f : ChartEntry → ChartEntry) : (s.modEntry n e f).pending = s.pending := rfl
@[simp] theorem State.modEntry_sampleCount (s : State) (n : ChartSlot) (e : EntryId) (f : ChartEntry → ChartEntry) : (s.modEntry n e f).sampleCount = s.sampleCount := rfl
@[simp] theorem State.modEntry_voices (s : State) (n : ChartSlot) (e : EntryId) (f : ChartEntry → ChartEntry) : (s.modEntry n e f).voices = s.voices := rfl
@[simp] theorem State.modEntry_freeQueue (s : State) (n : ChartSlot) (e : EntryId) (f : ChartEntry → ChartEntry) : (s.modEntry n e f).freeQueue = s.freeQueue := rfl
@[simp] theorem State.modEntry_stampCounter (s : State) (n : ChartSlot) (e : EntryId) (f : ChartEntry → ChartEntry) : (s.modEntry n e f).stampCounter = s.stampCounter := rfl
@[simp] theorem State.modEntry_players (s : State) (n : ChartSlot) (e : EntryId) (f : ChartEntry → ChartEntry) : (s.modEntry n e f).players = s.players := rfl
@[simp] theorem State.modEntry_setups (s : State) (n : ChartSlot) (e : EntryId) (f : ChartEntry → ChartEntry) : (s.modEntry n e f).setups = s.setups := rfl
@[simp] theorem State.modEntry_curves (s : State) (n : ChartSlot) (e : EntryId) (f : ChartEntry → ChartEntry) : (s.modEntry n e f).curves = s.curves := rfl
@[simp] theorem State.modEntry_waves (s : State) (n : ChartSlot) (e : EntryId) (f : ChartEntry → ChartEntry) : (s.modEntry n e f).waves = s.waves := rfl
@[simp] theorem State.modEntry_tuning (s : State) (n : ChartSlot) (e : EntryId) (f : ChartEntry → ChartEntry) : (s.modEntry n e f).tuning = s.tuning := rfl
@[simp] theorem State.modEntry_masterGain (s : State) (n : ChartSlot) (e : EntryId) (f : ChartEntry → ChartEntry) : (s.modEntry n e f).masterGain = s.masterGain := rfl
@[simp] theorem State.modEntry_directGains (s : State) (n : ChartSlot) (e : EntryId) (f : ChartEntry → ChartEntry) : (s.modEntry n e f).directGains = s.directGains := rfl
@[simp] theorem State.modEntry_clipMain (s : State) (n : ChartSlot) (e : EntryId) (f : ChartEntry → ChartEntry) : (s.modEntry n e f).clipMain = s.clipMain := rfl
@[simp] theorem State.modEntry_clipDirect (s : State) (n : ChartSlot) (e : EntryId) (f : ChartEntry → ChartEntry) : (s.modEntry n e f).clipDirect = s.clipDirect := rfl
@[simp] theorem State.modEntry_samples (s : State) (n : ChartSlot) (e : EntryId) (f : ChartEntry → ChartEntry) : (s.modEntry n e f).samples = s.samples := rfl
@[simp] theorem State.modEntry_audioFrame (s : State) (n : ChartSlot) (e : EntryId) (f : ChartEntry → ChartEntry) : (s.modEntry n e f).audioFrame = s.audioFrame := rfl
@[simp] theorem State.modEntry_intMode (s : State) (n : ChartSlot) (e : EntryId) (f : ChartEntry → ChartEntry) : (s.modEntry n e f).intMode = s.intMode := rfl
@[simp] theorem State.modEntry_intPolarity (s : State) (n : ChartSlot) (e : EntryId) (f : ChartEntry → ChartEntry) : (s.modEntry n e f).intPolarity = s.intPolarity := rfl
@[simp] theorem State.modEntry_globalMask (s : State) (n : ChartSlot) (e : EntryId) (f : ChartEntry → ChartEntry) : (s.modEntry n e f).globalMask = s.globalMask := rfl
@[simp] theorem State.modEntry_pulse (s : State) (n : ChartSlot) (e : EntryId) (f : ChartEntry → ChartEntry) : (s.modEntry n e f).pulse = s.pulse := rfl
@[simp] theorem State.modEntry_irqHigh (s : State) (n : ChartSlot) (e : EntryId) (f : ChartEntry → ChartEntry) : (s.modEntry n e f).irqHigh = s.irqHigh := rfl
@[simp] theorem State.modEntry_heldLow (s : State) (n : ChartSlot) (e : EntryId) (f : ChartEntry → ChartEntry) : (s.modEntry n e f).heldLow = s.heldLow := rfl
@[simp] theorem State.modEntry_txn (s : State) (n : ChartSlot) (e : EntryId) (f : ChartEntry → ChartEntry) : (s.modEntry n e f).txn = s.txn := rfl
@[simp] theorem State.modEntry_miso (s : State) (n : ChartSlot) (e : EntryId) (f : ChartEntry → ChartEntry) : (s.modEntry n e f).miso = s.miso := rfl

/-! ### `State.modSetup` -/

@[simp] theorem State.modSetup_pending (s : State) (n : SetupId) (f : Setup → Setup) : (s.modSetup n f).pending = s.pending := rfl
@[simp] theorem State.modSetup_sampleCount (s : State) (n : SetupId) (f : Setup → Setup) : (s.modSetup n f).sampleCount = s.sampleCount := rfl
@[simp] theorem State.modSetup_voices (s : State) (n : SetupId) (f : Setup → Setup) : (s.modSetup n f).voices = s.voices := rfl
@[simp] theorem State.modSetup_freeQueue (s : State) (n : SetupId) (f : Setup → Setup) : (s.modSetup n f).freeQueue = s.freeQueue := rfl
@[simp] theorem State.modSetup_stampCounter (s : State) (n : SetupId) (f : Setup → Setup) : (s.modSetup n f).stampCounter = s.stampCounter := rfl
@[simp] theorem State.modSetup_players (s : State) (n : SetupId) (f : Setup → Setup) : (s.modSetup n f).players = s.players := rfl
@[simp] theorem State.modSetup_curves (s : State) (n : SetupId) (f : Setup → Setup) : (s.modSetup n f).curves = s.curves := rfl
@[simp] theorem State.modSetup_charts (s : State) (n : SetupId) (f : Setup → Setup) : (s.modSetup n f).charts = s.charts := rfl
@[simp] theorem State.modSetup_waves (s : State) (n : SetupId) (f : Setup → Setup) : (s.modSetup n f).waves = s.waves := rfl
@[simp] theorem State.modSetup_tuning (s : State) (n : SetupId) (f : Setup → Setup) : (s.modSetup n f).tuning = s.tuning := rfl
@[simp] theorem State.modSetup_masterGain (s : State) (n : SetupId) (f : Setup → Setup) : (s.modSetup n f).masterGain = s.masterGain := rfl
@[simp] theorem State.modSetup_directGains (s : State) (n : SetupId) (f : Setup → Setup) : (s.modSetup n f).directGains = s.directGains := rfl
@[simp] theorem State.modSetup_clipMain (s : State) (n : SetupId) (f : Setup → Setup) : (s.modSetup n f).clipMain = s.clipMain := rfl
@[simp] theorem State.modSetup_clipDirect (s : State) (n : SetupId) (f : Setup → Setup) : (s.modSetup n f).clipDirect = s.clipDirect := rfl
@[simp] theorem State.modSetup_samples (s : State) (n : SetupId) (f : Setup → Setup) : (s.modSetup n f).samples = s.samples := rfl
@[simp] theorem State.modSetup_audioFrame (s : State) (n : SetupId) (f : Setup → Setup) : (s.modSetup n f).audioFrame = s.audioFrame := rfl
@[simp] theorem State.modSetup_intMode (s : State) (n : SetupId) (f : Setup → Setup) : (s.modSetup n f).intMode = s.intMode := rfl
@[simp] theorem State.modSetup_intPolarity (s : State) (n : SetupId) (f : Setup → Setup) : (s.modSetup n f).intPolarity = s.intPolarity := rfl
@[simp] theorem State.modSetup_globalMask (s : State) (n : SetupId) (f : Setup → Setup) : (s.modSetup n f).globalMask = s.globalMask := rfl
@[simp] theorem State.modSetup_pulse (s : State) (n : SetupId) (f : Setup → Setup) : (s.modSetup n f).pulse = s.pulse := rfl
@[simp] theorem State.modSetup_irqHigh (s : State) (n : SetupId) (f : Setup → Setup) : (s.modSetup n f).irqHigh = s.irqHigh := rfl
@[simp] theorem State.modSetup_heldLow (s : State) (n : SetupId) (f : Setup → Setup) : (s.modSetup n f).heldLow = s.heldLow := rfl
@[simp] theorem State.modSetup_txn (s : State) (n : SetupId) (f : Setup → Setup) : (s.modSetup n f).txn = s.txn := rfl
@[simp] theorem State.modSetup_miso (s : State) (n : SetupId) (f : Setup → Setup) : (s.modSetup n f).miso = s.miso := rfl

/-! ### `State.modTxn` -/

@[simp] theorem State.modTxn_pending (s : State) (f : Transaction → Transaction) : (s.modTxn f).pending = s.pending := rfl
@[simp] theorem State.modTxn_sampleCount (s : State) (f : Transaction → Transaction) : (s.modTxn f).sampleCount = s.sampleCount := rfl
@[simp] theorem State.modTxn_voices (s : State) (f : Transaction → Transaction) : (s.modTxn f).voices = s.voices := rfl
@[simp] theorem State.modTxn_freeQueue (s : State) (f : Transaction → Transaction) : (s.modTxn f).freeQueue = s.freeQueue := rfl
@[simp] theorem State.modTxn_stampCounter (s : State) (f : Transaction → Transaction) : (s.modTxn f).stampCounter = s.stampCounter := rfl
@[simp] theorem State.modTxn_players (s : State) (f : Transaction → Transaction) : (s.modTxn f).players = s.players := rfl
@[simp] theorem State.modTxn_setups (s : State) (f : Transaction → Transaction) : (s.modTxn f).setups = s.setups := rfl
@[simp] theorem State.modTxn_curves (s : State) (f : Transaction → Transaction) : (s.modTxn f).curves = s.curves := rfl
@[simp] theorem State.modTxn_charts (s : State) (f : Transaction → Transaction) : (s.modTxn f).charts = s.charts := rfl
@[simp] theorem State.modTxn_waves (s : State) (f : Transaction → Transaction) : (s.modTxn f).waves = s.waves := rfl
@[simp] theorem State.modTxn_tuning (s : State) (f : Transaction → Transaction) : (s.modTxn f).tuning = s.tuning := rfl
@[simp] theorem State.modTxn_masterGain (s : State) (f : Transaction → Transaction) : (s.modTxn f).masterGain = s.masterGain := rfl
@[simp] theorem State.modTxn_directGains (s : State) (f : Transaction → Transaction) : (s.modTxn f).directGains = s.directGains := rfl
@[simp] theorem State.modTxn_clipMain (s : State) (f : Transaction → Transaction) : (s.modTxn f).clipMain = s.clipMain := rfl
@[simp] theorem State.modTxn_clipDirect (s : State) (f : Transaction → Transaction) : (s.modTxn f).clipDirect = s.clipDirect := rfl
@[simp] theorem State.modTxn_samples (s : State) (f : Transaction → Transaction) : (s.modTxn f).samples = s.samples := rfl
@[simp] theorem State.modTxn_audioFrame (s : State) (f : Transaction → Transaction) : (s.modTxn f).audioFrame = s.audioFrame := rfl
@[simp] theorem State.modTxn_intMode (s : State) (f : Transaction → Transaction) : (s.modTxn f).intMode = s.intMode := rfl
@[simp] theorem State.modTxn_intPolarity (s : State) (f : Transaction → Transaction) : (s.modTxn f).intPolarity = s.intPolarity := rfl
@[simp] theorem State.modTxn_globalMask (s : State) (f : Transaction → Transaction) : (s.modTxn f).globalMask = s.globalMask := rfl
@[simp] theorem State.modTxn_pulse (s : State) (f : Transaction → Transaction) : (s.modTxn f).pulse = s.pulse := rfl
@[simp] theorem State.modTxn_irqHigh (s : State) (f : Transaction → Transaction) : (s.modTxn f).irqHigh = s.irqHigh := rfl
@[simp] theorem State.modTxn_heldLow (s : State) (f : Transaction → Transaction) : (s.modTxn f).heldLow = s.heldLow := rfl
@[simp] theorem State.modTxn_miso (s : State) (f : Transaction → Transaction) : (s.modTxn f).miso = s.miso := rfl

/-! ### `State.withFree` -/

@[simp] theorem State.withFree_pending (s : State) (q : List VoiceId) : (s.withFree q).pending = s.pending := rfl
@[simp] theorem State.withFree_sampleCount (s : State) (q : List VoiceId) : (s.withFree q).sampleCount = s.sampleCount := rfl
@[simp] theorem State.withFree_voices (s : State) (q : List VoiceId) : (s.withFree q).voices = s.voices := rfl
@[simp] theorem State.withFree_stampCounter (s : State) (q : List VoiceId) : (s.withFree q).stampCounter = s.stampCounter := rfl
@[simp] theorem State.withFree_players (s : State) (q : List VoiceId) : (s.withFree q).players = s.players := rfl
@[simp] theorem State.withFree_setups (s : State) (q : List VoiceId) : (s.withFree q).setups = s.setups := rfl
@[simp] theorem State.withFree_curves (s : State) (q : List VoiceId) : (s.withFree q).curves = s.curves := rfl
@[simp] theorem State.withFree_charts (s : State) (q : List VoiceId) : (s.withFree q).charts = s.charts := rfl
@[simp] theorem State.withFree_waves (s : State) (q : List VoiceId) : (s.withFree q).waves = s.waves := rfl
@[simp] theorem State.withFree_tuning (s : State) (q : List VoiceId) : (s.withFree q).tuning = s.tuning := rfl
@[simp] theorem State.withFree_masterGain (s : State) (q : List VoiceId) : (s.withFree q).masterGain = s.masterGain := rfl
@[simp] theorem State.withFree_directGains (s : State) (q : List VoiceId) : (s.withFree q).directGains = s.directGains := rfl
@[simp] theorem State.withFree_clipMain (s : State) (q : List VoiceId) : (s.withFree q).clipMain = s.clipMain := rfl
@[simp] theorem State.withFree_clipDirect (s : State) (q : List VoiceId) : (s.withFree q).clipDirect = s.clipDirect := rfl
@[simp] theorem State.withFree_samples (s : State) (q : List VoiceId) : (s.withFree q).samples = s.samples := rfl
@[simp] theorem State.withFree_audioFrame (s : State) (q : List VoiceId) : (s.withFree q).audioFrame = s.audioFrame := rfl
@[simp] theorem State.withFree_intMode (s : State) (q : List VoiceId) : (s.withFree q).intMode = s.intMode := rfl
@[simp] theorem State.withFree_intPolarity (s : State) (q : List VoiceId) : (s.withFree q).intPolarity = s.intPolarity := rfl
@[simp] theorem State.withFree_globalMask (s : State) (q : List VoiceId) : (s.withFree q).globalMask = s.globalMask := rfl
@[simp] theorem State.withFree_pulse (s : State) (q : List VoiceId) : (s.withFree q).pulse = s.pulse := rfl
@[simp] theorem State.withFree_irqHigh (s : State) (q : List VoiceId) : (s.withFree q).irqHigh = s.irqHigh := rfl
@[simp] theorem State.withFree_heldLow (s : State) (q : List VoiceId) : (s.withFree q).heldLow = s.heldLow := rfl
@[simp] theorem State.withFree_txn (s : State) (q : List VoiceId) : (s.withFree q).txn = s.txn := rfl
@[simp] theorem State.withFree_miso (s : State) (q : List VoiceId) : (s.withFree q).miso = s.miso := rfl
@[simp] theorem State.withFree_player (s : State) (q : List VoiceId) (p : Player) : (s.withFree q).player p = s.player p := rfl
@[simp] theorem State.withFree_voice (s : State) (q : List VoiceId) (w : VoiceId) : (s.withFree q).voice w = s.voice w := rfl
@[simp] theorem State.withFree_entry (s : State) (q : List VoiceId) (m : ChartSlot) (d : EntryId) : (s.withFree q).entry m d = s.entry m d := rfl
@[simp] theorem State.withFree_setup (s : State) (q : List VoiceId) (m : SetupId) : (s.withFree q).setup m = s.setup m := rfl
@[simp] theorem State.withFree_activeSetup (s : State) (q : List VoiceId) (p : Player) : (s.withFree q).activeSetup p = s.activeSetup p := rfl

/-! ### `State.stampUp` -/

@[simp] theorem State.stampUp_pending (s : State) : s.stampUp.pending = s.pending := rfl
@[simp] theorem State.stampUp_sampleCount (s : State) : s.stampUp.sampleCount = s.sampleCount := rfl
@[simp] theorem State.stampUp_voices (s : State) : s.stampUp.voices = s.voices := rfl
@[simp] theorem State.stampUp_freeQueue (s : State) : s.stampUp.freeQueue = s.freeQueue := rfl
@[simp] theorem State.stampUp_players (s : State) : s.stampUp.players = s.players := rfl
@[simp] theorem State.stampUp_setups (s : State) : s.stampUp.setups = s.setups := rfl
@[simp] theorem State.stampUp_curves (s : State) : s.stampUp.curves = s.curves := rfl
@[simp] theorem State.stampUp_charts (s : State) : s.stampUp.charts = s.charts := rfl
@[simp] theorem State.stampUp_waves (s : State) : s.stampUp.waves = s.waves := rfl
@[simp] theorem State.stampUp_tuning (s : State) : s.stampUp.tuning = s.tuning := rfl
@[simp] theorem State.stampUp_masterGain (s : State) : s.stampUp.masterGain = s.masterGain := rfl
@[simp] theorem State.stampUp_directGains (s : State) : s.stampUp.directGains = s.directGains := rfl
@[simp] theorem State.stampUp_clipMain (s : State) : s.stampUp.clipMain = s.clipMain := rfl
@[simp] theorem State.stampUp_clipDirect (s : State) : s.stampUp.clipDirect = s.clipDirect := rfl
@[simp] theorem State.stampUp_samples (s : State) : s.stampUp.samples = s.samples := rfl
@[simp] theorem State.stampUp_audioFrame (s : State) : s.stampUp.audioFrame = s.audioFrame := rfl
@[simp] theorem State.stampUp_intMode (s : State) : s.stampUp.intMode = s.intMode := rfl
@[simp] theorem State.stampUp_intPolarity (s : State) : s.stampUp.intPolarity = s.intPolarity := rfl
@[simp] theorem State.stampUp_globalMask (s : State) : s.stampUp.globalMask = s.globalMask := rfl
@[simp] theorem State.stampUp_pulse (s : State) : s.stampUp.pulse = s.pulse := rfl
@[simp] theorem State.stampUp_irqHigh (s : State) : s.stampUp.irqHigh = s.irqHigh := rfl
@[simp] theorem State.stampUp_heldLow (s : State) : s.stampUp.heldLow = s.heldLow := rfl
@[simp] theorem State.stampUp_txn (s : State) : s.stampUp.txn = s.txn := rfl
@[simp] theorem State.stampUp_miso (s : State) : s.stampUp.miso = s.miso := rfl
@[simp] theorem State.stampUp_player (s : State) (p : Player) : s.stampUp.player p = s.player p := rfl
@[simp] theorem State.stampUp_voice (s : State) (w : VoiceId) : s.stampUp.voice w = s.voice w := rfl
@[simp] theorem State.stampUp_entry (s : State) (m : ChartSlot) (d : EntryId) : s.stampUp.entry m d = s.entry m d := rfl
@[simp] theorem State.stampUp_setup (s : State) (m : SetupId) : s.stampUp.setup m = s.setup m := rfl
@[simp] theorem State.stampUp_activeSetup (s : State) (p : Player) : s.stampUp.activeSetup p = s.activeSetup p := rfl

@[simp] theorem State.withFree_freeQueue (s : State) (q : List VoiceId) : (s.withFree q).freeQueue = q := rfl
@[simp] theorem State.stampUp_stampCounter (s : State) : s.stampUp.stampCounter = s.stampCounter + 1 := rfl

/-! ### What the accessors read -/

theorem State.player_modPlayer (s : State) (p q : Player) (f : PlayerState → PlayerState) :
    (s.modPlayer p f).player q = if q = p then f (s.player p) else s.player q := by
  rcases eq_or_ne q p with rfl | h
  · simp [State.player, State.modPlayer]
  · have hne : p.val ≠ q.val := fun e => h (Fin.ext e.symm)
    simp [State.player, State.modPlayer, h, hne]

@[simp] theorem State.player_modPlayer_self (s : State) (p : Player) (f : PlayerState → PlayerState) :
    (s.modPlayer p f).player p = f (s.player p) := by simp [State.player_modPlayer]

theorem State.player_modPlayer_other (s : State) {p q : Player} (h : q ≠ p) (f : PlayerState → PlayerState) :
    (s.modPlayer p f).player q = s.player q := by simp [State.player_modPlayer, h]

@[simp] theorem State.player_modPlayers (s : State) (q : Player) (f : PlayerState → PlayerState) :
    (s.modPlayers f).player q = f (s.player q) := by simp [State.player, State.modPlayers]

theorem State.voice_modVoice (s : State) (v w : VoiceId) (f : Voice → Voice) :
    (s.modVoice v f).voice w = if w = v then f (s.voice v) else s.voice w := by
  rcases eq_or_ne w v with rfl | h
  · simp [State.voice, State.modVoice]
  · have hne : v.val ≠ w.val := fun e => h (Fin.ext e.symm)
    simp [State.voice, State.modVoice, h, hne]

@[simp] theorem State.voice_modVoice_self (s : State) (v : VoiceId) (f : Voice → Voice) :
    (s.modVoice v f).voice v = f (s.voice v) := by simp [State.voice_modVoice]

theorem State.voice_modVoice_other (s : State) {v w : VoiceId} (h : w ≠ v) (f : Voice → Voice) :
    (s.modVoice v f).voice w = s.voice w := by simp [State.voice_modVoice, h]

@[simp] theorem State.voice_modVoices (s : State) (v : VoiceId) (f : Voice → Voice) :
    (s.modVoices f).voice v = f (s.voice v) := by simp [State.voice, State.modVoices]

theorem State.entry_modEntry (s : State) (n m : ChartSlot) (e d : EntryId) (f : ChartEntry → ChartEntry) :
    (s.modEntry n e f).entry m d = if m = n ∧ d = e then f (s.entry n e) else s.entry m d := by
  rcases eq_or_ne m n with rfl | h
  · rcases eq_or_ne d e with rfl | h'
    · simp [State.entry, State.modEntry]
    · have hne : e.val ≠ d.val := fun x => h' (Fin.ext x.symm)
      simp [State.entry, State.modEntry, h', hne]
  · have hne : n.val ≠ m.val := fun x => h (Fin.ext x.symm)
    simp [State.entry, State.modEntry, h, hne]

@[simp] theorem State.entry_modEntry_self (s : State) (n : ChartSlot) (e : EntryId)
    (f : ChartEntry → ChartEntry) : (s.modEntry n e f).entry n e = f (s.entry n e) := by
  simp [State.entry_modEntry]

theorem State.setup_modSetup (s : State) (n m : SetupId) (f : Setup → Setup) :
    (s.modSetup n f).setup m = if m = n then f (s.setup n) else s.setup m := by
  rcases eq_or_ne m n with rfl | h
  · simp [State.setup, State.modSetup]
  · have hne : n.val ≠ m.val := fun x => h (Fin.ext x.symm)
    simp [State.setup, State.modSetup, h, hne]

@[simp] theorem State.modPlayer_voice (s : State) (p : Player) (f : PlayerState → PlayerState) (w : VoiceId) :
    (s.modPlayer p f).voice w = s.voice w := rfl
@[simp] theorem State.modPlayer_entry (s : State) (p : Player) (f : PlayerState → PlayerState) (m : ChartSlot) (d : EntryId) :
    (s.modPlayer p f).entry m d = s.entry m d := rfl
@[simp] theorem State.modPlayer_setup (s : State) (p : Player) (f : PlayerState → PlayerState) (m : SetupId) :
    (s.modPlayer p f).setup m = s.setup m := rfl
@[simp] theorem State.modPlayers_voice (s : State) (f : PlayerState → PlayerState) (w : VoiceId) :
    (s.modPlayers f).voice w = s.voice w := rfl
@[simp] theorem State.modPlayers_entry (s : State) (f : PlayerState → PlayerState) (m : ChartSlot) (d : EntryId) :
    (s.modPlayers f).entry m d = s.entry m d := rfl
@[simp] theorem State.modPlayers_setup (s : State) (f : PlayerState → PlayerState) (m : SetupId) :
    (s.modPlayers f).setup m = s.setup m := rfl
@[simp] theorem State.modVoice_player (s : State) (v : VoiceId) (f : Voice → Voice) (q : Player) :
    (s.modVoice v f).player q = s.player q := rfl
@[simp] theorem State.modVoice_entry (s : State) (v : VoiceId) (f : Voice → Voice) (m : ChartSlot) (d : EntryId) :
    (s.modVoice v f).entry m d = s.entry m d := rfl
@[simp] theorem State.modVoice_setup (s : State) (v : VoiceId) (f : Voice → Voice) (m : SetupId) :
    (s.modVoice v f).setup m = s.setup m := rfl
@[simp] theorem State.modVoices_player (s : State) (f : Voice → Voice) (q : Player) :
    (s.modVoices f).player q = s.player q := rfl
@[simp] theorem State.modVoices_entry (s : State) (f : Voice → Voice) (m : ChartSlot) (d : EntryId) :
    (s.modVoices f).entry m d = s.entry m d := rfl
@[simp] theorem State.modVoices_setup (s : State) (f : Voice → Voice) (m : SetupId) :
    (s.modVoices f).setup m = s.setup m := rfl
@[simp] theorem State.modEntry_player (s : State) (n : ChartSlot) (e : EntryId) (f : ChartEntry → ChartEntry) (q : Player) :
    (s.modEntry n e f).player q = s.player q := rfl
@[simp] theorem State.modEntry_voice (s : State) (n : ChartSlot) (e : EntryId) (f : ChartEntry → ChartEntry) (w : VoiceId) :
    (s.modEntry n e f).voice w = s.voice w := rfl
@[simp] theorem State.modEntry_setup (s : State) (n : ChartSlot) (e : EntryId) (f : ChartEntry → ChartEntry) (m : SetupId) :
    (s.modEntry n e f).setup m = s.setup m := rfl
@[simp] theorem State.modSetup_player (s : State) (n : SetupId) (f : Setup → Setup) (q : Player) :
    (s.modSetup n f).player q = s.player q := rfl
@[simp] theorem State.modSetup_voice (s : State) (n : SetupId) (f : Setup → Setup) (w : VoiceId) :
    (s.modSetup n f).voice w = s.voice w := rfl
@[simp] theorem State.modSetup_entry (s : State) (n : SetupId) (f : Setup → Setup) (m : ChartSlot) (d : EntryId) :
    (s.modSetup n f).entry m d = s.entry m d := rfl
@[simp] theorem State.modTxn_player (s : State) (f : Transaction → Transaction) (q : Player) :
    (s.modTxn f).player q = s.player q := rfl
@[simp] theorem State.modTxn_voice (s : State) (f : Transaction → Transaction) (w : VoiceId) :
    (s.modTxn f).voice w = s.voice w := rfl
@[simp] theorem State.modTxn_entry (s : State) (f : Transaction → Transaction) (m : ChartSlot) (d : EntryId) :
    (s.modTxn f).entry m d = s.entry m d := rfl
@[simp] theorem State.modTxn_setup (s : State) (f : Transaction → Transaction) (m : SetupId) :
    (s.modTxn f).setup m = s.setup m := rfl

/-! ### States that agree -/

/-- Two states with the same players' records have the same players. -/
theorem State.players_ext {s t : State} (h : ∀ p, s.player p = t.player p) : s.players = t.players :=
  Vector.ext fun i hi => h ⟨i, hi⟩

/-- Two states with the same voice records have the same voices. -/
theorem State.voices_ext {s t : State} (h : ∀ v, s.voice v = t.voice v) : s.voices = t.voices :=
  Vector.ext fun i hi => h ⟨i, hi⟩

/-- Two states with the same chart entries have the same chart store. -/
theorem State.charts_ext {s t : State} (h : ∀ n e, s.entry n e = t.entry n e) : s.charts = t.charts :=
  Vector.ext fun i hi => Vector.ext fun j hj => h ⟨i, hi⟩ ⟨j, hj⟩

/-- Two states with the same setup records have the same setup table. -/
theorem State.setups_ext {s t : State} (h : ∀ n, s.setup n = t.setup n) : s.setups = t.setups :=
  Vector.ext fun i hi => h ⟨i, hi⟩

@[simp] theorem State.modPlayer_activeSetup (s : State) (p q : Player) (f : PlayerState → PlayerState)
    (h : (f (s.player p)).active = (s.player p).active) : (s.modPlayer p f).activeSetup q = s.activeSetup q := by
  rcases eq_or_ne q p with rfl | hq
  · simp [State.activeSetup, h]
  · simp [State.activeSetup, State.player_modPlayer_other s hq]

end Sys2Proof.Machine
end

