-- ==== Sys2Proof/Laws/Ops.lean ====
section
/-! SUPPORT. What flags, event records and replies do to the state: each touches one player's record, and of it
the queue and the sticky flags alone. -/

namespace Sys2Proof.Machine

/-! ### A player's queues -/

@[simp] theorem PlayerState.queued_zeroOffset (ps : PlayerState) (e : EventRecord) : (ps.queued e).zeroOffset = ps.zeroOffset := by
  unfold PlayerState.queued; split <;> rfl
@[simp] theorem PlayerState.queued_capturePending (ps : PlayerState) (e : EventRecord) : (ps.queued e).capturePending = ps.capturePending := by
  unfold PlayerState.queued; split <;> rfl
@[simp] theorem PlayerState.queued_breath (ps : PlayerState) (e : EventRecord) : (ps.queued e).breath = ps.breath := by
  unfold PlayerState.queued; split <;> rfl
@[simp] theorem PlayerState.queued_level (ps : PlayerState) (e : EventRecord) : (ps.queued e).level = ps.level := by
  unfold PlayerState.queued; split <;> rfl
@[simp] theorem PlayerState.queued_candidate (ps : PlayerState) (e : EventRecord) : (ps.queued e).candidate = ps.candidate := by
  unfold PlayerState.queued; split <;> rfl
@[simp] theorem PlayerState.queued_settleCount (ps : PlayerState) (e : EventRecord) : (ps.queued e).settleCount = ps.settleCount := by
  unfold PlayerState.queued; split <;> rfl
@[simp] theorem PlayerState.queued_accepted (ps : PlayerState) (e : EventRecord) : (ps.queued e).accepted = ps.accepted := by
  unfold PlayerState.queued; split <;> rfl
@[simp] theorem PlayerState.queued_trill (ps : PlayerState) (e : EventRecord) : (ps.queued e).trill = ps.trill := by
  unfold PlayerState.queued; split <;> rfl
@[simp] theorem PlayerState.queued_trillSeen (ps : PlayerState) (e : EventRecord) : (ps.queued e).trillSeen = ps.trillSeen := by
  unfold PlayerState.queued; split <;> rfl
@[simp] theorem PlayerState.queued_selected (ps : PlayerState) (e : EventRecord) : (ps.queued e).selected = ps.selected := by
  unfold PlayerState.queued; split <;> rfl
@[simp] theorem PlayerState.queued_active (ps : PlayerState) (e : EventRecord) : (ps.queued e).active = ps.active := by
  unfold PlayerState.queued; split <;> rfl
@[simp] theorem PlayerState.queued_bend (ps : PlayerState) (e : EventRecord) : (ps.queued e).bend = ps.bend := by
  unfold PlayerState.queued; split <;> rfl
@[simp] theorem PlayerState.queued_note (ps : PlayerState) (e : EventRecord) : (ps.queued e).note = ps.note := by
  unfold PlayerState.queued; split <;> rfl
@[simp] theorem PlayerState.queued_tagCounter (ps : PlayerState) (e : EventRecord) : (ps.queued e).tagCounter = ps.tagCounter := by
  unfold PlayerState.queued; split <;> rfl
@[simp] theorem PlayerState.queued_latch (ps : PlayerState) (e : EventRecord) : (ps.queued e).latch = ps.latch := by
  unfold PlayerState.queued; split <;> rfl
@[simp] theorem PlayerState.queued_latchSeen (ps : PlayerState) (e : EventRecord) : (ps.queued e).latchSeen = ps.latchSeen := by
  unfold PlayerState.queued; split <;> rfl
@[simp] theorem PlayerState.queued_learn (ps : PlayerState) (e : EventRecord) : (ps.queued e).learn = ps.learn := by
  unfold PlayerState.queued; split <;> rfl
@[simp] theorem PlayerState.queued_held (ps : PlayerState) (e : EventRecord) : (ps.queued e).held = ps.held := by
  unfold PlayerState.queued; split <;> rfl
@[simp] theorem PlayerState.queued_reserve (ps : PlayerState) (e : EventRecord) : (ps.queued e).reserve = ps.reserve := by
  unfold PlayerState.queued; split <;> rfl
@[simp] theorem PlayerState.queued_ceiling (ps : PlayerState) (e : EventRecord) : (ps.queued e).ceiling = ps.ceiling := by
  unfold PlayerState.queued; split <;> rfl
@[simp] theorem PlayerState.queued_enabled (ps : PlayerState) (e : EventRecord) : (ps.queued e).enabled = ps.enabled := by
  unfold PlayerState.queued; split <;> rfl
@[simp] theorem PlayerState.queued_configuredRate (ps : PlayerState) (e : EventRecord) : (ps.queued e).configuredRate = ps.configuredRate := by
  unfold PlayerState.queued; split <;> rfl
@[simp] theorem PlayerState.queued_workingRate (ps : PlayerState) (e : EventRecord) : (ps.queued e).workingRate = ps.workingRate := by
  unfold PlayerState.queued; split <;> rfl
@[simp] theorem PlayerState.queued_link (ps : PlayerState) (e : EventRecord) : (ps.queued e).link = ps.link := by
  unfold PlayerState.queued; split <;> rfl
@[simp] theorem PlayerState.queued_assembly (ps : PlayerState) (e : EventRecord) : (ps.queued e).assembly = ps.assembly := by
  unfold PlayerState.queued; split <;> rfl
@[simp] theorem PlayerState.queued_restarted (ps : PlayerState) (e : EventRecord) : (ps.queued e).restarted = ps.restarted := by
  unfold PlayerState.queued; split <;> rfl
@[simp] theorem PlayerState.queued_received (ps : PlayerState) (e : EventRecord) : (ps.queued e).received = ps.received := by
  unfold PlayerState.queued; split <;> rfl
@[simp] theorem PlayerState.queued_seqRef (ps : PlayerState) (e : EventRecord) : (ps.queued e).seqRef = ps.seqRef := by
  unfold PlayerState.queued; split <;> rfl
@[simp] theorem PlayerState.queued_silence (ps : PlayerState) (e : EventRecord) : (ps.queued e).silence = ps.silence := by
  unfold PlayerState.queued; split <;> rfl
@[simp] theorem PlayerState.queued_keyCount (ps : PlayerState) (e : EventRecord) : (ps.queued e).keyCount = ps.keyCount := by
  unfold PlayerState.queued; split <;> rfl
@[simp] theorem PlayerState.queued_replies (ps : PlayerState) (e : EventRecord) : (ps.queued e).replies = ps.replies := by
  unfold PlayerState.queued; split <;> rfl
@[simp] theorem PlayerState.queued_slot (ps : PlayerState) (e : EventRecord) : (ps.queued e).slot = ps.slot := by
  unfold PlayerState.queued; split <;> rfl
@[simp] theorem PlayerState.queued_threshold (ps : PlayerState) (e : EventRecord) : (ps.queued e).threshold = ps.threshold := by
  unfold PlayerState.queued; split <;> rfl
@[simp] theorem PlayerState.queued_maskA (ps : PlayerState) (e : EventRecord) : (ps.queued e).maskA = ps.maskA := by
  unfold PlayerState.queued; split <;> rfl
@[simp] theorem PlayerState.queued_maskB (ps : PlayerState) (e : EventRecord) : (ps.queued e).maskB = ps.maskB := by
  unfold PlayerState.queued; split <;> rfl
@[simp] theorem PlayerState.queued_denied (ps : PlayerState) (e : EventRecord) : (ps.queued e).denied = ps.denied := by
  unfold PlayerState.queued; split <;> rfl
@[simp] theorem PlayerState.queued_window (ps : PlayerState) (e : EventRecord) : (ps.queued e).window = ps.window := by
  unfold PlayerState.queued; split <;> rfl

@[simp] theorem PlayerState.placed_zeroOffset (ps : PlayerState) (r : Reply) : (ps.placed r).zeroOffset = ps.zeroOffset := by
  unfold PlayerState.placed; split <;> rfl
@[simp] theorem PlayerState.placed_capturePending (ps : PlayerState) (r : Reply) : (ps.placed r).capturePending = ps.capturePending := by
  unfold PlayerState.placed; split <;> rfl
@[simp] theorem PlayerState.placed_breath (ps : PlayerState) (r : Reply) : (ps.placed r).breath = ps.breath := by
  unfold PlayerState.placed; split <;> rfl
@[simp] theorem PlayerState.placed_level (ps : PlayerState) (r : Reply) : (ps.placed r).level = ps.level := by
  unfold PlayerState.placed; split <;> rfl
@[simp] theorem PlayerState.placed_candidate (ps : PlayerState) (r : Reply) : (ps.placed r).candidate = ps.candidate := by
  unfold PlayerState.placed; split <;> rfl
@[simp] theorem PlayerState.placed_settleCount (ps : PlayerState) (r : Reply) : (ps.placed r).settleCount = ps.settleCount := by
  unfold PlayerState.placed; split <;> rfl
@[simp] theorem PlayerState.placed_accepted (ps : PlayerState) (r : Reply) : (ps.placed r).accepted = ps.accepted := by
  unfold PlayerState.placed; split <;> rfl
@[simp] theorem PlayerState.placed_trill (ps : PlayerState) (r : Reply) : (ps.placed r).trill = ps.trill := by
  unfold PlayerState.placed; split <;> rfl
@[simp] theorem PlayerState.placed_trillSeen (ps : PlayerState) (r : Reply) : (ps.placed r).trillSeen = ps.trillSeen := by
  unfold PlayerState.placed; split <;> rfl
@[simp] theorem PlayerState.placed_selected (ps : PlayerState) (r : Reply) : (ps.placed r).selected = ps.selected := by
  unfold PlayerState.placed; split <;> rfl
@[simp] theorem PlayerState.placed_active (ps : PlayerState) (r : Reply) : (ps.placed r).active = ps.active := by
  unfold PlayerState.placed; split <;> rfl
@[simp] theorem PlayerState.placed_bend (ps : PlayerState) (r : Reply) : (ps.placed r).bend = ps.bend := by
  unfold PlayerState.placed; split <;> rfl
@[simp] theorem PlayerState.placed_note (ps : PlayerState) (r : Reply) : (ps.placed r).note = ps.note := by
  unfold PlayerState.placed; split <;> rfl
@[simp] theorem PlayerState.placed_tagCounter (ps : PlayerState) (r : Reply) : (ps.placed r).tagCounter = ps.tagCounter := by
  unfold PlayerState.placed; split <;> rfl
@[simp] theorem PlayerState.placed_latch (ps : PlayerState) (r : Reply) : (ps.placed r).latch = ps.latch := by
  unfold PlayerState.placed; split <;> rfl
@[simp] theorem PlayerState.placed_latchSeen (ps : PlayerState) (r : Reply) : (ps.placed r).latchSeen = ps.latchSeen := by
  unfold PlayerState.placed; split <;> rfl
@[simp] theorem PlayerState.placed_learn (ps : PlayerState) (r : Reply) : (ps.placed r).learn = ps.learn := by
  unfold PlayerState.placed; split <;> rfl
@[simp] theorem PlayerState.placed_held (ps : PlayerState) (r : Reply) : (ps.placed r).held = ps.held := by
  unfold PlayerState.placed; split <;> rfl
@[simp] theorem PlayerState.placed_reserve (ps : PlayerState) (r : Reply) : (ps.placed r).reserve = ps.reserve := by
  unfold PlayerState.placed; split <;> rfl
@[simp] theorem PlayerState.placed_ceiling (ps : PlayerState) (r : Reply) : (ps.placed r).ceiling = ps.ceiling := by
  unfold PlayerState.placed; split <;> rfl
@[simp] theorem PlayerState.placed_enabled (ps : PlayerState) (r : Reply) : (ps.placed r).enabled = ps.enabled := by
  unfold PlayerState.placed; split <;> rfl
@[simp] theorem PlayerState.placed_configuredRate (ps : PlayerState) (r : Reply) : (ps.placed r).configuredRate = ps.configuredRate := by
  unfold PlayerState.placed; split <;> rfl
@[simp] theorem PlayerState.placed_workingRate (ps : PlayerState) (r : Reply) : (ps.placed r).workingRate = ps.workingRate := by
  unfold PlayerState.placed; split <;> rfl
@[simp] theorem PlayerState.placed_link (ps : PlayerState) (r : Reply) : (ps.placed r).link = ps.link := by
  unfold PlayerState.placed; split <;> rfl
@[simp] theorem PlayerState.placed_assembly (ps : PlayerState) (r : Reply) : (ps.placed r).assembly = ps.assembly := by
  unfold PlayerState.placed; split <;> rfl
@[simp] theorem PlayerState.placed_restarted (ps : PlayerState) (r : Reply) : (ps.placed r).restarted = ps.restarted := by
  unfold PlayerState.placed; split <;> rfl
@[simp] theorem PlayerState.placed_received (ps : PlayerState) (r : Reply) : (ps.placed r).received = ps.received := by
  unfold PlayerState.placed; split <;> rfl
@[simp] theorem PlayerState.placed_seqRef (ps : PlayerState) (r : Reply) : (ps.placed r).seqRef = ps.seqRef := by
  unfold PlayerState.placed; split <;> rfl
@[simp] theorem PlayerState.placed_silence (ps : PlayerState) (r : Reply) : (ps.placed r).silence = ps.silence := by
  unfold PlayerState.placed; split <;> rfl
@[simp] theorem PlayerState.placed_keyCount (ps : PlayerState) (r : Reply) : (ps.placed r).keyCount = ps.keyCount := by
  unfold PlayerState.placed; split <;> rfl
@[simp] theorem PlayerState.placed_slot (ps : PlayerState) (r : Reply) : (ps.placed r).slot = ps.slot := by
  unfold PlayerState.placed; split <;> rfl
@[simp] theorem PlayerState.placed_threshold (ps : PlayerState) (r : Reply) : (ps.placed r).threshold = ps.threshold := by
  unfold PlayerState.placed; split <;> rfl
@[simp] theorem PlayerState.placed_maskA (ps : PlayerState) (r : Reply) : (ps.placed r).maskA = ps.maskA := by
  unfold PlayerState.placed; split <;> rfl
@[simp] theorem PlayerState.placed_maskB (ps : PlayerState) (r : Reply) : (ps.placed r).maskB = ps.maskB := by
  unfold PlayerState.placed; split <;> rfl
@[simp] theorem PlayerState.placed_denied (ps : PlayerState) (r : Reply) : (ps.placed r).denied = ps.denied := by
  unfold PlayerState.placed; split <;> rfl
@[simp] theorem PlayerState.placed_events (ps : PlayerState) (r : Reply) : (ps.placed r).events = ps.events := by
  unfold PlayerState.placed; split <;> rfl
@[simp] theorem PlayerState.placed_window (ps : PlayerState) (r : Reply) : (ps.placed r).window = ps.window := by
  unfold PlayerState.placed; split <;> rfl

/-- What queuing a record can do: the events grow by the record, or EVQ_OVERFLOW is set (R177). -/
theorem PlayerState.queued_cases (ps : PlayerState) (e : EventRecord) :
    (ps.events.length < 32 ∧ ps.queued e = { ps with events := ps.events ++ [e] }) ∨
    (32 ≤ ps.events.length ∧ ps.queued e = { ps with statusA := ps.statusA ||| evqOverflow }) := by
  unfold PlayerState.queued eventQueueSize
  split
  · exact .inl ⟨by assumption, rfl⟩
  · exact .inr ⟨by omega, rfl⟩

/-- What placing a reply can do: the replies grow by it, or RPQ_OVERFLOW is set (R162). -/
theorem PlayerState.placed_cases (ps : PlayerState) (r : Reply) :
    (ps.replies.length < 8 ∧ ps.placed r = { ps with replies := ps.replies ++ [r] }) ∨
    (8 ≤ ps.replies.length ∧ ps.placed r = { ps with statusA := ps.statusA ||| rpqOverflow }) := by
  unfold PlayerState.placed replyQueueSize
  split
  · exact .inl ⟨by assumption, rfl⟩
  · exact .inr ⟨by omega, rfl⟩

theorem PlayerState.queued_events_length (ps : PlayerState) (e : EventRecord) (h : ps.events.length ≤ 32) :
    (ps.queued e).events.length ≤ 32 := by
  rcases ps.queued_cases e with ⟨hl, he⟩ | ⟨_, he⟩ <;> rw [he] <;> simp <;> omega

theorem PlayerState.placed_replies_length (ps : PlayerState) (r : Reply) (h : ps.replies.length ≤ 8) :
    (ps.placed r).replies.length ≤ 8 := by
  rcases ps.placed_cases r with ⟨hl, he⟩ | ⟨_, he⟩ <;> rw [he] <;> simp <;> omega

/-- The events after a record joins, whatever else the record holds. -/
theorem PlayerState.queued_events (ps : PlayerState) (e : EventRecord) :
    (ps.queued e).events = if ps.events.length < 32 then ps.events ++ [e] else ps.events := by
  rcases ps.queued_cases e with ⟨hl, he⟩ | ⟨hl, he⟩
  · rw [he, if_pos hl]
  · rw [he, if_neg (by omega)]

/-- The replies after a reply is placed, whatever else the record holds. -/
theorem PlayerState.placed_replies (ps : PlayerState) (r : Reply) :
    (ps.placed r).replies = if ps.replies.length < 8 then ps.replies ++ [r] else ps.replies := by
  rcases ps.placed_cases r with ⟨hl, he⟩ | ⟨hl, he⟩
  · rw [he, if_pos hl]
  · rw [he, if_neg (by omega)]

/-- Status A after a record joins or is refused. -/
theorem PlayerState.queued_statusA (ps : PlayerState) (e : EventRecord) :
    (ps.queued e).statusA = if ps.events.length < 32 then ps.statusA else ps.statusA ||| 0x40 := by
  rcases ps.queued_cases e with ⟨hl, he⟩ | ⟨hl, he⟩
  · rw [he, if_pos hl]
  · rw [he, if_neg (by omega)]; rfl

/-- Status A after a reply is placed or refused. -/
theorem PlayerState.placed_statusA (ps : PlayerState) (r : Reply) :
    (ps.placed r).statusA = if ps.replies.length < 8 then ps.statusA else ps.statusA ||| 0x80 := by
  rcases ps.placed_cases r with ⟨hl, he⟩ | ⟨hl, he⟩
  · rw [he, if_pos hl]
  · rw [he, if_neg (by omega)]; rfl

/-! ### `raiseFlag` -/

@[simp] theorem raiseFlag_pending (s : State) (p : Player) (flag : Byte) :
    (raiseFlag p flag s).pending = s.pending := rfl
@[simp] theorem raiseFlag_sampleCount (s : State) (p : Player) (flag : Byte) :
    (raiseFlag p flag s).sampleCount = s.sampleCount := rfl
@[simp] theorem raiseFlag_voices (s : State) (p : Player) (flag : Byte) :
    (raiseFlag p flag s).voices = s.voices := rfl
@[simp] theorem raiseFlag_freeQueue (s : State) (p : Player) (flag : Byte) :
    (raiseFlag p flag s).freeQueue = s.freeQueue := rfl
@[simp] theorem raiseFlag_stampCounter (s : State) (p : Player) (flag : Byte) :
    (raiseFlag p flag s).stampCounter = s.stampCounter := rfl
@[simp] theorem raiseFlag_setups (s : State) (p : Player) (flag : Byte) :
    (raiseFlag p flag s).setups = s.setups := rfl
@[simp] theorem raiseFlag_curves (s : State) (p : Player) (flag : Byte) :
    (raiseFlag p flag s).curves = s.curves := rfl
@[simp] theorem raiseFlag_charts (s : State) (p : Player) (flag : Byte) :
    (raiseFlag p flag s).charts = s.charts := rfl
@[simp] theorem raiseFlag_waves (s : State) (p : Player) (flag : Byte) :
    (raiseFlag p flag s).waves = s.waves := rfl
@[simp] theorem raiseFlag_tuning (s : State) (p : Player) (flag : Byte) :
    (raiseFlag p flag s).tuning = s.tuning := rfl
@[simp] theorem raiseFlag_masterGain (s : State) (p : Player) (flag : Byte) :
    (raiseFlag p flag s).masterGain = s.masterGain := rfl
@[simp] theorem raiseFlag_directGains (s : State) (p : Player) (flag : Byte) :
    (raiseFlag p flag s).directGains = s.directGains := rfl
@[simp] theorem raiseFlag_clipMain (s : State) (p : Player) (flag : Byte) :
    (raiseFlag p flag s).clipMain = s.clipMain := rfl
@[simp] theorem raiseFlag_clipDirect (s : State) (p : Player) (flag : Byte) :
    (raiseFlag p flag s).clipDirect = s.clipDirect := rfl
@[simp] theorem raiseFlag_samples (s : State) (p : Player) (flag : Byte) :
    (raiseFlag p flag s).samples = s.samples := rfl
@[simp] theorem raiseFlag_audioFrame (s : State) (p : Player) (flag : Byte) :
    (raiseFlag p flag s).audioFrame = s.audioFrame := rfl
@[simp] theorem raiseFlag_intMode (s : State) (p : Player) (flag : Byte) :
    (raiseFlag p flag s).intMode = s.intMode := rfl
@[simp] theorem raiseFlag_intPolarity (s : State) (p : Player) (flag : Byte) :
    (raiseFlag p flag s).intPolarity = s.intPolarity := rfl
@[simp] theorem raiseFlag_globalMask (s : State) (p : Player) (flag : Byte) :
    (raiseFlag p flag s).globalMask = s.globalMask := rfl
@[simp] theorem raiseFlag_pulse (s : State) (p : Player) (flag : Byte) :
    (raiseFlag p flag s).pulse = s.pulse := rfl
@[simp] theorem raiseFlag_irqHigh (s : State) (p : Player) (flag : Byte) :
    (raiseFlag p flag s).irqHigh = s.irqHigh := rfl
@[simp] theorem raiseFlag_heldLow (s : State) (p : Player) (flag : Byte) :
    (raiseFlag p flag s).heldLow = s.heldLow := rfl
@[simp] theorem raiseFlag_txn (s : State) (p : Player) (flag : Byte) :
    (raiseFlag p flag s).txn = s.txn := rfl
@[simp] theorem raiseFlag_miso (s : State) (p : Player) (flag : Byte) :
    (raiseFlag p flag s).miso = s.miso := rfl
@[simp] theorem raiseFlag_voice (s : State) (p : Player) (flag : Byte) (w : VoiceId) :
    (raiseFlag p flag s).voice w = s.voice w := rfl
@[simp] theorem raiseFlag_entry (s : State) (p : Player) (flag : Byte) (m : ChartSlot) (d : EntryId) :
    (raiseFlag p flag s).entry m d = s.entry m d := rfl
@[simp] theorem raiseFlag_setup (s : State) (p : Player) (flag : Byte) (m : SetupId) :
    (raiseFlag p flag s).setup m = s.setup m := rfl
theorem raiseFlag_player (s : State) (p : Player) (flag : Byte) (q : Player) :
    (raiseFlag p flag s).player q = if q = p then { s.player p with statusA := (s.player p).statusA ||| flag } else s.player q :=
  State.player_modPlayer s p q _
@[simp] theorem raiseFlag_player_self (s : State) (p : Player) (flag : Byte) :
    (raiseFlag p flag s).player p = { s.player p with statusA := (s.player p).statusA ||| flag } := by simp [raiseFlag_player]
theorem raiseFlag_player_other (s : State) (p : Player) (flag : Byte) {q : Player} (h : q ≠ p) :
    (raiseFlag p flag s).player q = s.player q := by simp [raiseFlag_player, h]

/-! ### `queueEvent` -/

@[simp] theorem queueEvent_pending (s : State) (p : Player) (e : EventRecord) :
    (queueEvent p e s).pending = s.pending := rfl
@[simp] theorem queueEvent_sampleCount (s : State) (p : Player) (e : EventRecord) :
    (queueEvent p e s).sampleCount = s.sampleCount := rfl
@[simp] theorem queueEvent_voices (s : State) (p : Player) (e : EventRecord) :
    (queueEvent p e s).voices = s.voices := rfl
@[simp] theorem queueEvent_freeQueue (s : State) (p : Player) (e : EventRecord) :
    (queueEvent p e s).freeQueue = s.freeQueue := rfl
@[simp] theorem queueEvent_stampCounter (s : State) (p : Player) (e : EventRecord) :
    (queueEvent p e s).stampCounter = s.stampCounter := rfl
@[simp] theorem queueEvent_setups (s : State) (p : Player) (e : EventRecord) :
    (queueEvent p e s).setups = s.setups := rfl
@[simp] theorem queueEvent_curves (s : State) (p : Player) (e : EventRecord) :
    (queueEvent p e s).curves = s.curves := rfl
@[simp] theorem queueEvent_charts (s : State) (p : Player) (e : EventRecord) :
    (queueEvent p e s).charts = s.charts := rfl
@[simp] theorem queueEvent_waves (s : State) (p : Player) (e : EventRecord) :
    (queueEvent p e s).waves = s.waves := rfl
@[simp] theorem queueEvent_tuning (s : State) (p : Player) (e : EventRecord) :
    (queueEvent p e s).tuning = s.tuning := rfl
@[simp] theorem queueEvent_masterGain (s : State) (p : Player) (e : EventRecord) :
    (queueEvent p e s).masterGain = s.masterGain := rfl
@[simp] theorem queueEvent_directGains (s : State) (p : Player) (e : EventRecord) :
    (queueEvent p e s).directGains = s.directGains := rfl
@[simp] theorem queueEvent_clipMain (s : State) (p : Player) (e : EventRecord) :
    (queueEvent p e s).clipMain = s.clipMain := rfl
@[simp] theorem queueEvent_clipDirect (s : State) (p : Player) (e : EventRecord) :
    (queueEvent p e s).clipDirect = s.clipDirect := rfl
@[simp] theorem queueEvent_samples (s : State) (p : Player) (e : EventRecord) :
    (queueEvent p e s).samples = s.samples := rfl
@[simp] theorem queueEvent_audioFrame (s : State) (p : Player) (e : EventRecord) :
    (queueEvent p e s).audioFrame = s.audioFrame := rfl
@[simp] theorem queueEvent_intMode (s : State) (p : Player) (e : EventRecord) :
    (queueEvent p e s).intMode = s.intMode := rfl
@[simp] theorem queueEvent_intPolarity (s : State) (p : Player) (e : EventRecord) :
    (queueEvent p e s).intPolarity = s.intPolarity := rfl
@[simp] theorem queueEvent_globalMask (s : State) (p : Player) (e : EventRecord) :
    (queueEvent p e s).globalMask = s.globalMask := rfl
@[simp] theorem queueEvent_pulse (s : State) (p : Player) (e : EventRecord) :
    (queueEvent p e s).pulse = s.pulse := rfl
@[simp] theorem queueEvent_irqHigh (s : State) (p : Player) (e : EventRecord) :
    (queueEvent p e s).irqHigh = s.irqHigh := rfl
@[simp] theorem queueEvent_heldLow (s : State) (p : Player) (e : EventRecord) :
    (queueEvent p e s).heldLow = s.heldLow := rfl
@[simp] theorem queueEvent_txn (s : State) (p : Player) (e : EventRecord) :
    (queueEvent p e s).txn = s.txn := rfl
@[simp] theorem queueEvent_miso (s : State) (p : Player) (e : EventRecord) :
    (queueEvent p e s).miso = s.miso := rfl
@[simp] theorem queueEvent_voice (s : State) (p : Player) (e : EventRecord) (w : VoiceId) :
    (queueEvent p e s).voice w = s.voice w := rfl
@[simp] theorem queueEvent_entry (s : State) (p : Player) (e : EventRecord) (m : ChartSlot) (d : EntryId) :
    (queueEvent p e s).entry m d = s.entry m d := rfl
@[simp] theorem queueEvent_setup (s : State) (p : Player) (e : EventRecord) (m : SetupId) :
    (queueEvent p e s).setup m = s.setup m := rfl
theorem queueEvent_player (s : State) (p : Player) (e : EventRecord) (q : Player) :
    (queueEvent p e s).player q = if q = p then (s.player p).queued e else s.player q :=
  State.player_modPlayer s p q _
@[simp] theorem queueEvent_player_self (s : State) (p : Player) (e : EventRecord) :
    (queueEvent p e s).player p = (s.player p).queued e := by simp [queueEvent_player]
theorem queueEvent_player_other (s : State) (p : Player) (e : EventRecord) {q : Player} (h : q ≠ p) :
    (queueEvent p e s).player q = s.player q := by simp [queueEvent_player, h]

/-! ### `report` -/

@[simp] theorem report_pending (s : State) (p : Player) (k : EventKind) (tag : BitVec 8) (note : Nat) (fl : Byte) (value : Nat) :
    (report p k tag note fl value s).pending = s.pending := rfl
@[simp] theorem report_sampleCount (s : State) (p : Player) (k : EventKind) (tag : BitVec 8) (note : Nat) (fl : Byte) (value : Nat) :
    (report p k tag note fl value s).sampleCount = s.sampleCount := rfl
@[simp] theorem report_voices (s : State) (p : Player) (k : EventKind) (tag : BitVec 8) (note : Nat) (fl : Byte) (value : Nat) :
    (report p k tag note fl value s).voices = s.voices := rfl
@[simp] theorem report_freeQueue (s : State) (p : Player) (k : EventKind) (tag : BitVec 8) (note : Nat) (fl : Byte) (value : Nat) :
    (report p k tag note fl value s).freeQueue = s.freeQueue := rfl
@[simp] theorem report_stampCounter (s : State) (p : Player) (k : EventKind) (tag : BitVec 8) (note : Nat) (fl : Byte) (value : Nat) :
    (report p k tag note fl value s).stampCounter = s.stampCounter := rfl
@[simp] theorem report_setups (s : State) (p : Player) (k : EventKind) (tag : BitVec 8) (note : Nat) (fl : Byte) (value : Nat) :
    (report p k tag note fl value s).setups = s.setups := rfl
@[simp] theorem report_curves (s : State) (p : Player) (k : EventKind) (tag : BitVec 8) (note : Nat) (fl : Byte) (value : Nat) :
    (report p k tag note fl value s).curves = s.curves := rfl
@[simp] theorem report_charts (s : State) (p : Player) (k : EventKind) (tag : BitVec 8) (note : Nat) (fl : Byte) (value : Nat) :
    (report p k tag note fl value s).charts = s.charts := rfl
@[simp] theorem report_waves (s : State) (p : Player) (k : EventKind) (tag : BitVec 8) (note : Nat) (fl : Byte) (value : Nat) :
    (report p k tag note fl value s).waves = s.waves := rfl
@[simp] theorem report_tuning (s : State) (p : Player) (k : EventKind) (tag : BitVec 8) (note : Nat) (fl : Byte) (value : Nat) :
    (report p k tag note fl value s).tuning = s.tuning := rfl
@[simp] theorem report_masterGain (s : State) (p : Player) (k : EventKind) (tag : BitVec 8) (note : Nat) (fl : Byte) (value : Nat) :
    (report p k tag note fl value s).masterGain = s.masterGain := rfl
@[simp] theorem report_directGains (s : State) (p : Player) (k : EventKind) (tag : BitVec 8) (note : Nat) (fl : Byte) (value : Nat) :
    (report p k tag note fl value s).directGains = s.directGains := rfl
@[simp] theorem report_clipMain (s : State) (p : Player) (k : EventKind) (tag : BitVec 8) (note : Nat) (fl : Byte) (value : Nat) :
    (report p k tag note fl value s).clipMain = s.clipMain := rfl
@[simp] theorem report_clipDirect (s : State) (p : Player) (k : EventKind) (tag : BitVec 8) (note : Nat) (fl : Byte) (value : Nat) :
    (report p k tag note fl value s).clipDirect = s.clipDirect := rfl
@[simp] theorem report_samples (s : State) (p : Player) (k : EventKind) (tag : BitVec 8) (note : Nat) (fl : Byte) (value : Nat) :
    (report p k tag note fl value s).samples = s.samples := rfl
@[simp] theorem report_audioFrame (s : State) (p : Player) (k : EventKind) (tag : BitVec 8) (note : Nat) (fl : Byte) (value : Nat) :
    (report p k tag note fl value s).audioFrame = s.audioFrame := rfl
@[simp] theorem report_intMode (s : State) (p : Player) (k : EventKind) (tag : BitVec 8) (note : Nat) (fl : Byte) (value : Nat) :
    (report p k tag note fl value s).intMode = s.intMode := rfl
@[simp] theorem report_intPolarity (s : State) (p : Player) (k : EventKind) (tag : BitVec 8) (note : Nat) (fl : Byte) (value : Nat) :
    (report p k tag note fl value s).intPolarity = s.intPolarity := rfl
@[simp] theorem report_globalMask (s : State) (p : Player) (k : EventKind) (tag : BitVec 8) (note : Nat) (fl : Byte) (value : Nat) :
    (report p k tag note fl value s).globalMask = s.globalMask := rfl
@[simp] theorem report_pulse (s : State) (p : Player) (k : EventKind) (tag : BitVec 8) (note : Nat) (fl : Byte) (value : Nat) :
    (report p k tag note fl value s).pulse = s.pulse := rfl
@[simp] theorem report_irqHigh (s : State) (p : Player) (k : EventKind) (tag : BitVec 8) (note : Nat) (fl : Byte) (value : Nat) :
    (report p k tag note fl value s).irqHigh = s.irqHigh := rfl
@[simp] theorem report_heldLow (s : State) (p : Player) (k : EventKind) (tag : BitVec 8) (note : Nat) (fl : Byte) (value : Nat) :
    (report p k tag note fl value s).heldLow = s.heldLow := rfl
@[simp] theorem report_txn (s : State) (p : Player) (k : EventKind) (tag : BitVec 8) (note : Nat) (fl : Byte) (value : Nat) :
    (report p k tag note fl value s).txn = s.txn := rfl
@[simp] theorem report_miso (s : State) (p : Player) (k : EventKind) (tag : BitVec 8) (note : Nat) (fl : Byte) (value : Nat) :
    (report p k tag note fl value s).miso = s.miso := rfl
@[simp] theorem report_voice (s : State) (p : Player) (k : EventKind) (tag : BitVec 8) (note : Nat) (fl : Byte) (value : Nat) (w : VoiceId) :
    (report p k tag note fl value s).voice w = s.voice w := rfl
@[simp] theorem report_entry (s : State) (p : Player) (k : EventKind) (tag : BitVec 8) (note : Nat) (fl : Byte) (value : Nat) (m : ChartSlot) (d : EntryId) :
    (report p k tag note fl value s).entry m d = s.entry m d := rfl
@[simp] theorem report_setup (s : State) (p : Player) (k : EventKind) (tag : BitVec 8) (note : Nat) (fl : Byte) (value : Nat) (m : SetupId) :
    (report p k tag note fl value s).setup m = s.setup m := rfl
theorem report_player (s : State) (p : Player) (k : EventKind) (tag : BitVec 8) (note : Nat) (fl : Byte) (value : Nat) (q : Player) :
    (report p k tag note fl value s).player q = if q = p then (s.player p).queued (recordOf s k tag note fl value) else s.player q :=
  State.player_modPlayer s p q _
@[simp] theorem report_player_self (s : State) (p : Player) (k : EventKind) (tag : BitVec 8) (note : Nat) (fl : Byte) (value : Nat) :
    (report p k tag note fl value s).player p = (s.player p).queued (recordOf s k tag note fl value) := by simp [report_player]
theorem report_player_other (s : State) (p : Player) (k : EventKind) (tag : BitVec 8) (note : Nat) (fl : Byte) (value : Nat) {q : Player} (h : q ≠ p) :
    (report p k tag note fl value s).player q = s.player q := by simp [report_player, h]

/-! ### `placeReply` -/

@[simp] theorem placeReply_pending (s : State) (p : Player) (r : Reply) :
    (placeReply p r s).pending = s.pending := rfl
@[simp] theorem placeReply_sampleCount (s : State) (p : Player) (r : Reply) :
    (placeReply p r s).sampleCount = s.sampleCount := rfl
@[simp] theorem placeReply_voices (s : State) (p : Player) (r : Reply) :
    (placeReply p r s).voices = s.voices := rfl
@[simp] theorem placeReply_freeQueue (s : State) (p : Player) (r : Reply) :
    (placeReply p r s).freeQueue = s.freeQueue := rfl
@[simp] theorem placeReply_stampCounter (s : State) (p : Player) (r : Reply) :
    (placeReply p r s).stampCounter = s.stampCounter := rfl
@[simp] theorem placeReply_setups (s : State) (p : Player) (r : Reply) :
    (placeReply p r s).setups = s.setups := rfl
@[simp] theorem placeReply_curves (s : State) (p : Player) (r : Reply) :
    (placeReply p r s).curves = s.curves := rfl
@[simp] theorem placeReply_charts (s : State) (p : Player) (r : Reply) :
    (placeReply p r s).charts = s.charts := rfl
@[simp] theorem placeReply_waves (s : State) (p : Player) (r : Reply) :
    (placeReply p r s).waves = s.waves := rfl
@[simp] theorem placeReply_tuning (s : State) (p : Player) (r : Reply) :
    (placeReply p r s).tuning = s.tuning := rfl
@[simp] theorem placeReply_masterGain (s : State) (p : Player) (r : Reply) :
    (placeReply p r s).masterGain = s.masterGain := rfl
@[simp] theorem placeReply_directGains (s : State) (p : Player) (r : Reply) :
    (placeReply p r s).directGains = s.directGains := rfl
@[simp] theorem placeReply_clipMain (s : State) (p : Player) (r : Reply) :
    (placeReply p r s).clipMain = s.clipMain := rfl
@[simp] theorem placeReply_clipDirect (s : State) (p : Player) (r : Reply) :
    (placeReply p r s).clipDirect = s.clipDirect := rfl
@[simp] theorem placeReply_samples (s : State) (p : Player) (r : Reply) :
    (placeReply p r s).samples = s.samples := rfl
@[simp] theorem placeReply_audioFrame (s : State) (p : Player) (r : Reply) :
    (placeReply p r s).audioFrame = s.audioFrame := rfl
@[simp] theorem placeReply_intMode (s : State) (p : Player) (r : Reply) :
    (placeReply p r s).intMode = s.intMode := rfl
@[simp] theorem placeReply_intPolarity (s : State) (p : Player) (r : Reply) :
    (placeReply p r s).intPolarity = s.intPolarity := rfl
@[simp] theorem placeReply_globalMask (s : State) (p : Player) (r : Reply) :
    (placeReply p r s).globalMask = s.globalMask := rfl
@[simp] theorem placeReply_pulse (s : State) (p : Player) (r : Reply) :
    (placeReply p r s).pulse = s.pulse := rfl
@[simp] theorem placeReply_irqHigh (s : State) (p : Player) (r : Reply) :
    (placeReply p r s).irqHigh = s.irqHigh := rfl
@[simp] theorem placeReply_heldLow (s : State) (p : Player) (r : Reply) :
    (placeReply p r s).heldLow = s.heldLow := rfl
@[simp] theorem placeReply_txn (s : State) (p : Player) (r : Reply) :
    (placeReply p r s).txn = s.txn := rfl
@[simp] theorem placeReply_miso (s : State) (p : Player) (r : Reply) :
    (placeReply p r s).miso = s.miso := rfl
@[simp] theorem placeReply_voice (s : State) (p : Player) (r : Reply) (w : VoiceId) :
    (placeReply p r s).voice w = s.voice w := rfl
@[simp] theorem placeReply_entry (s : State) (p : Player) (r : Reply) (m : ChartSlot) (d : EntryId) :
    (placeReply p r s).entry m d = s.entry m d := rfl
@[simp] theorem placeReply_setup (s : State) (p : Player) (r : Reply) (m : SetupId) :
    (placeReply p r s).setup m = s.setup m := rfl
theorem placeReply_player (s : State) (p : Player) (r : Reply) (q : Player) :
    (placeReply p r s).player q = if q = p then (s.player p).placed r else s.player q :=
  State.player_modPlayer s p q _
@[simp] theorem placeReply_player_self (s : State) (p : Player) (r : Reply) :
    (placeReply p r s).player p = (s.player p).placed r := by simp [placeReply_player]
theorem placeReply_player_other (s : State) (p : Player) (r : Reply) {q : Player} (h : q ≠ p) :
    (placeReply p r s).player q = s.player q := by simp [placeReply_player, h]

/-! ### Folds -/

/-- What each step of a fold keeps, the fold keeps. -/
theorem foldl_keeps {α β γ : Type} (f : β → γ) (g : β → α → β) (h : ∀ b a, f (g b a) = f b) (l : List α) (b : β) :
    f (l.foldl g b) = f b := by
  induction l generalizing b with
  | nil => rfl
  | cons a l ih => rw [List.foldl_cons, ih, h]

/-- A relation that each step of a fold extends holds of the fold. -/
theorem foldl_extends {α β : Type} (R : β → β → Prop) (g : β → α → β) (refl : ∀ b, R b b)
    (trans : ∀ {a b c}, R a b → R b c → R a c) (l : List α) (b : β) (h : ∀ b, ∀ a ∈ l, R b (g b a)) :
    R b (l.foldl g b) := by
  induction l generalizing b with
  | nil => exact refl b
  | cons a l ih =>
    exact trans (h b a (by simp)) (ih (g b a) fun b x hx => h b x (by simp [hx]))

end Sys2Proof.Machine
end

