-- ==== Sys2Proof/Laws/Flags.lean ====
section
/-! SUPPORT. What settling the interrupt line does: the pulse and the pin take their values, all else stays. -/

namespace Sys2Proof.Machine

@[simp] theorem settleLine_pending (b a : State) : (settleLine b a).pending = a.pending := rfl
@[simp] theorem settleLine_sampleCount (b a : State) : (settleLine b a).sampleCount = a.sampleCount := rfl
@[simp] theorem settleLine_voices (b a : State) : (settleLine b a).voices = a.voices := rfl
@[simp] theorem settleLine_freeQueue (b a : State) : (settleLine b a).freeQueue = a.freeQueue := rfl
@[simp] theorem settleLine_stampCounter (b a : State) : (settleLine b a).stampCounter = a.stampCounter := rfl
@[simp] theorem settleLine_players (b a : State) : (settleLine b a).players = a.players := rfl
@[simp] theorem settleLine_setups (b a : State) : (settleLine b a).setups = a.setups := rfl
@[simp] theorem settleLine_curves (b a : State) : (settleLine b a).curves = a.curves := rfl
@[simp] theorem settleLine_charts (b a : State) : (settleLine b a).charts = a.charts := rfl
@[simp] theorem settleLine_waves (b a : State) : (settleLine b a).waves = a.waves := rfl
@[simp] theorem settleLine_tuning (b a : State) : (settleLine b a).tuning = a.tuning := rfl
@[simp] theorem settleLine_masterGain (b a : State) : (settleLine b a).masterGain = a.masterGain := rfl
@[simp] theorem settleLine_directGains (b a : State) : (settleLine b a).directGains = a.directGains := rfl
@[simp] theorem settleLine_clipMain (b a : State) : (settleLine b a).clipMain = a.clipMain := rfl
@[simp] theorem settleLine_clipDirect (b a : State) : (settleLine b a).clipDirect = a.clipDirect := rfl
@[simp] theorem settleLine_samples (b a : State) : (settleLine b a).samples = a.samples := rfl
@[simp] theorem settleLine_audioFrame (b a : State) : (settleLine b a).audioFrame = a.audioFrame := rfl
@[simp] theorem settleLine_intMode (b a : State) : (settleLine b a).intMode = a.intMode := rfl
@[simp] theorem settleLine_intPolarity (b a : State) : (settleLine b a).intPolarity = a.intPolarity := rfl
@[simp] theorem settleLine_globalMask (b a : State) : (settleLine b a).globalMask = a.globalMask := rfl
@[simp] theorem settleLine_heldLow (b a : State) : (settleLine b a).heldLow = a.heldLow := rfl
@[simp] theorem settleLine_txn (b a : State) : (settleLine b a).txn = a.txn := rfl
@[simp] theorem settleLine_miso (b a : State) : (settleLine b a).miso = a.miso := rfl
@[simp] theorem settleLine_player (b a : State) (p : Player) : (settleLine b a).player p = a.player p := rfl
@[simp] theorem settleLine_voice (b a : State) (w : VoiceId) : (settleLine b a).voice w = a.voice w := rfl
@[simp] theorem settleLine_entry (b a : State) (m : ChartSlot) (d : EntryId) : (settleLine b a).entry m d = a.entry m d := rfl
@[simp] theorem settleLine_setup (b a : State) (m : SetupId) : (settleLine b a).setup m = a.setup m := rfl

/-- A command that answers has settled the line of its effect. -/
theorem answer_inv {b a t : State} (h : answer b a = .next t) : t = settleLine b a := by
  simpa [answer] using h.symm

/-- Settling changes nothing but the pulse and the pin. -/
theorem settleLine_eq (b a : State) :
    settleLine b a = { a with pulse := (settleLine b a).pulse, irqHigh := (settleLine b a).irqHigh } := rfl

theorem State.unmasked_iff (s : State) : s.unmasked = true ↔ FlagUnmasked s := by
  have hp : s.players.toList.any PlayerState.unmasked = true ↔
      ∃ p, (s.player p).unmasked = true := by
    rw [List.any_eq_true]
    constructor
    · rintro ⟨x, hx, hu⟩
      obtain ⟨i, hi, rfl⟩ := List.mem_iff_getElem.1 hx
      exact ⟨⟨i, by simpa using hi⟩, by simpa [State.player] using hu⟩
    · rintro ⟨p, hu⟩
      exact ⟨s.player p, by simp [State.player], hu⟩
  unfold State.unmasked FlagUnmasked
  rw [Bool.or_eq_true, hp]
  simp [PlayerState.unmasked]

/-- A player's record shows a rising unmasked flag (R182). -/
theorem State.transition_iff (b a : State) : State.transition b a = true ↔ FlagRises b a := by
  have hp : (List.zipWith PlayerState.transition b.players.toList a.players.toList).any id = true ↔
      ∃ p, PlayerState.transition (b.player p) (a.player p) = true := by
    rw [List.any_eq_true]
    constructor
    · rintro ⟨x, hx, hu⟩
      obtain ⟨i, hi, rfl⟩ := List.mem_iff_getElem.1 hx
      have hi' : i < Config.numPlayers := by simpa using hi
      exact ⟨⟨i, hi'⟩, by simpa [State.player] using hu⟩
    · rintro ⟨p, hu⟩
      refine ⟨_, List.mem_iff_getElem.2 ⟨p.val, by simp, rfl⟩, ?_⟩
      simpa [State.player] using hu
  unfold State.transition FlagRises
  rw [Bool.or_eq_true, hp]
  simp [PlayerState.transition]

theorem State.lineActive_iff (s : State) : s.lineActive = true ↔ LineActive s := by
  unfold State.lineActive LineActive
  cases s.intMode
  · exact s.unmasked_iff
  · exact Iff.rfl

/-- Settling drives the pin by mode, polarity, flags and pulse (R182). -/
theorem settleLine_driven (b a : State) : PinDriven (settleLine b a) := by
  have h : LineActive (settleLine b a) ↔
      State.lineActive { a with pulse := pulseAfter b a } = true :=
    (State.lineActive_iff { a with pulse := pulseAfter b a }).symm
  unfold PinDriven
  rw [h]
  show State.lineLevel _ = true ↔ _
  unfold State.lineLevel
  cases hpol : a.intPolarity <;> simp [hpol]

end Sys2Proof.Machine
end

