-- ==== Sys2Proof/Laws/Voices.lean ====
section
/-! SUPPORT. What walks over lists of voices do: each voice of the list is changed once, the others and all
other state are left alone. -/

namespace Sys2Proof.Machine

/-- A walk that changes each voice of a list by an idempotent function changes exactly the voices of the list. -/
theorem foldl_modVoice_voice (f : Voice → Voice) (hf : ∀ x, f (f x) = f x) (l : List VoiceId) (s : State)
    (w : VoiceId) :
    (l.foldl (fun t v => t.modVoice v f) s).voice w = if w ∈ l then f (s.voice w) else s.voice w := by
  induction l generalizing s with
  | nil => simp
  | cons v l ih =>
    rw [List.foldl_cons, ih]
    rcases eq_or_ne w v with rfl | h
    · by_cases hm : w ∈ l <;> simp [hm, hf]
    · simp [State.voice_modVoice_other s h, h]

/-- Such a walk changes nothing but voices. -/
theorem foldl_modVoice_eq (f : Voice → Voice) (l : List VoiceId) (s : State) :
    l.foldl (fun t v => t.modVoice v f) s =
      { s with voices := (l.foldl (fun t v => t.modVoice v f) s).voices } := by
  induction l generalizing s with
  | nil => rfl
  | cons v l ih => rw [List.foldl_cons, ih]; rfl

/-- A state that differs in its voices alone has the same players. -/
theorem State.player_of_voices {s t : State} (h : t = { s with voices := t.voices }) (p : Player) :
    t.player p = s.player p := by rw [h]; rfl

@[simp] theorem foldl_modVoice_player (f : Voice → Voice) (l : List VoiceId) (s : State) (p : Player) :
    (l.foldl (fun t v => t.modVoice v f) s).player p = s.player p :=
  State.player_of_voices (foldl_modVoice_eq f l s) p

@[simp] theorem foldl_modVoice_entry (f : Voice → Voice) (l : List VoiceId) (s : State) (n : ChartSlot)
    (e : EntryId) : (l.foldl (fun t v => t.modVoice v f) s).entry n e = s.entry n e := by
  rw [foldl_modVoice_eq]; rfl

@[simp] theorem foldl_modVoice_sampleCount (f : Voice → Voice) (l : List VoiceId) (s : State) :
    (l.foldl (fun t v => t.modVoice v f) s).sampleCount = s.sampleCount := by
  rw [foldl_modVoice_eq]

/-- A voice that is let go by the state its holder keeps it in (R89, R109). -/
def letGo (st : VoiceState) (vo : Voice) : Voice := if vo.state = st then vo.released else vo

theorem letGo_idem (st : VoiceState) (h : st ≠ .releasing) (vo : Voice) : letGo st (letGo st vo) = letGo st vo := by
  unfold letGo
  by_cases hs : vo.state = st
  · simp [hs, Voice.released, Ne.symm h]
  · simp [hs]

/-- Releasing is changing one voice. -/
theorem releaseVoice_eq (st : VoiceState) (v : VoiceId) (s : State) :
    releaseVoice st v s = s.modVoice v (letGo st) := rfl

theorem clearClaim_eq (v : VoiceId) (s : State) :
    clearClaim v s = s.modVoice v fun vo => { vo with claim := none } := rfl

/-- The walk that releases every entry of a stack is one walk over the voices of its entries. -/
theorem foldl_releaseEntry (l : List LatchEntry) (s : State) :
    l.foldl (fun t e => releaseEntry e t) s =
      (l.flatMap LatchEntry.voices).foldl (fun t v => t.modVoice v (letGo .latched)) s := by
  induction l generalizing s with
  | nil => rfl
  | cons e l ih => rw [List.foldl_cons, ih, List.flatMap_cons, List.foldl_append]; rfl

/-- Several records queued in a row are queued in order. -/
@[simp] theorem PlayerState.queuedAll_nil (ps : PlayerState) : ps.queuedAll [] = ps := rfl
@[simp] theorem PlayerState.queuedAll_cons (ps : PlayerState) (e : EventRecord) (l : List EventRecord) :
    ps.queuedAll (e :: l) = (ps.queued e).queuedAll l := rfl
theorem PlayerState.queuedAll_append (ps : PlayerState) (l m : List EventRecord) :
    ps.queuedAll (l ++ m) = (ps.queuedAll l).queuedAll m := List.foldl_append ..

/-- What queuing keeps, queuing several records keeps. -/
theorem PlayerState.queuedAll_keeps {α : Type} (f : PlayerState → α) (hf : ∀ x e, f (PlayerState.queued x e) = f x)
    (ps : PlayerState) (l : List EventRecord) : f (ps.queuedAll l) = f ps :=
  foldl_keeps f _ hf l ps

@[simp] theorem PlayerState.queuedAll_zeroOffset (ps : PlayerState) (l : List EventRecord) :
    (ps.queuedAll l).zeroOffset = ps.zeroOffset := PlayerState.queuedAll_keeps PlayerState.zeroOffset PlayerState.queued_zeroOffset ps l
@[simp] theorem PlayerState.queuedAll_capturePending (ps : PlayerState) (l : List EventRecord) :
    (ps.queuedAll l).capturePending = ps.capturePending := PlayerState.queuedAll_keeps PlayerState.capturePending PlayerState.queued_capturePending ps l
@[simp] theorem PlayerState.queuedAll_breath (ps : PlayerState) (l : List EventRecord) :
    (ps.queuedAll l).breath = ps.breath := PlayerState.queuedAll_keeps PlayerState.breath PlayerState.queued_breath ps l
@[simp] theorem PlayerState.queuedAll_level (ps : PlayerState) (l : List EventRecord) :
    (ps.queuedAll l).level = ps.level := PlayerState.queuedAll_keeps PlayerState.level PlayerState.queued_level ps l
@[simp] theorem PlayerState.queuedAll_candidate (ps : PlayerState) (l : List EventRecord) :
    (ps.queuedAll l).candidate = ps.candidate := PlayerState.queuedAll_keeps PlayerState.candidate PlayerState.queued_candidate ps l
@[simp] theorem PlayerState.queuedAll_settleCount (ps : PlayerState) (l : List EventRecord) :
    (ps.queuedAll l).settleCount = ps.settleCount := PlayerState.queuedAll_keeps PlayerState.settleCount PlayerState.queued_settleCount ps l
@[simp] theorem PlayerState.queuedAll_accepted (ps : PlayerState) (l : List EventRecord) :
    (ps.queuedAll l).accepted = ps.accepted := PlayerState.queuedAll_keeps PlayerState.accepted PlayerState.queued_accepted ps l
@[simp] theorem PlayerState.queuedAll_trill (ps : PlayerState) (l : List EventRecord) :
    (ps.queuedAll l).trill = ps.trill := PlayerState.queuedAll_keeps PlayerState.trill PlayerState.queued_trill ps l
@[simp] theorem PlayerState.queuedAll_trillSeen (ps : PlayerState) (l : List EventRecord) :
    (ps.queuedAll l).trillSeen = ps.trillSeen := PlayerState.queuedAll_keeps PlayerState.trillSeen PlayerState.queued_trillSeen ps l
@[simp] theorem PlayerState.queuedAll_selected (ps : PlayerState) (l : List EventRecord) :
    (ps.queuedAll l).selected = ps.selected := PlayerState.queuedAll_keeps PlayerState.selected PlayerState.queued_selected ps l
@[simp] theorem PlayerState.queuedAll_active (ps : PlayerState) (l : List EventRecord) :
    (ps.queuedAll l).active = ps.active := PlayerState.queuedAll_keeps PlayerState.active PlayerState.queued_active ps l
@[simp] theorem PlayerState.queuedAll_bend (ps : PlayerState) (l : List EventRecord) :
    (ps.queuedAll l).bend = ps.bend := PlayerState.queuedAll_keeps PlayerState.bend PlayerState.queued_bend ps l
@[simp] theorem PlayerState.queuedAll_note (ps : PlayerState) (l : List EventRecord) :
    (ps.queuedAll l).note = ps.note := PlayerState.queuedAll_keeps PlayerState.note PlayerState.queued_note ps l
@[simp] theorem PlayerState.queuedAll_tagCounter (ps : PlayerState) (l : List EventRecord) :
    (ps.queuedAll l).tagCounter = ps.tagCounter := PlayerState.queuedAll_keeps PlayerState.tagCounter PlayerState.queued_tagCounter ps l
@[simp] theorem PlayerState.queuedAll_latch (ps : PlayerState) (l : List EventRecord) :
    (ps.queuedAll l).latch = ps.latch := PlayerState.queuedAll_keeps PlayerState.latch PlayerState.queued_latch ps l
@[simp] theorem PlayerState.queuedAll_latchSeen (ps : PlayerState) (l : List EventRecord) :
    (ps.queuedAll l).latchSeen = ps.latchSeen := PlayerState.queuedAll_keeps PlayerState.latchSeen PlayerState.queued_latchSeen ps l
@[simp] theorem PlayerState.queuedAll_learn (ps : PlayerState) (l : List EventRecord) :
    (ps.queuedAll l).learn = ps.learn := PlayerState.queuedAll_keeps PlayerState.learn PlayerState.queued_learn ps l
@[simp] theorem PlayerState.queuedAll_held (ps : PlayerState) (l : List EventRecord) :
    (ps.queuedAll l).held = ps.held := PlayerState.queuedAll_keeps PlayerState.held PlayerState.queued_held ps l
@[simp] theorem PlayerState.queuedAll_reserve (ps : PlayerState) (l : List EventRecord) :
    (ps.queuedAll l).reserve = ps.reserve := PlayerState.queuedAll_keeps PlayerState.reserve PlayerState.queued_reserve ps l
@[simp] theorem PlayerState.queuedAll_ceiling (ps : PlayerState) (l : List EventRecord) :
    (ps.queuedAll l).ceiling = ps.ceiling := PlayerState.queuedAll_keeps PlayerState.ceiling PlayerState.queued_ceiling ps l
@[simp] theorem PlayerState.queuedAll_enabled (ps : PlayerState) (l : List EventRecord) :
    (ps.queuedAll l).enabled = ps.enabled := PlayerState.queuedAll_keeps PlayerState.enabled PlayerState.queued_enabled ps l
@[simp] theorem PlayerState.queuedAll_configuredRate (ps : PlayerState) (l : List EventRecord) :
    (ps.queuedAll l).configuredRate = ps.configuredRate := PlayerState.queuedAll_keeps PlayerState.configuredRate PlayerState.queued_configuredRate ps l
@[simp] theorem PlayerState.queuedAll_workingRate (ps : PlayerState) (l : List EventRecord) :
    (ps.queuedAll l).workingRate = ps.workingRate := PlayerState.queuedAll_keeps PlayerState.workingRate PlayerState.queued_workingRate ps l
@[simp] theorem PlayerState.queuedAll_link (ps : PlayerState) (l : List EventRecord) :
    (ps.queuedAll l).link = ps.link := PlayerState.queuedAll_keeps PlayerState.link PlayerState.queued_link ps l
@[simp] theorem PlayerState.queuedAll_assembly (ps : PlayerState) (l : List EventRecord) :
    (ps.queuedAll l).assembly = ps.assembly := PlayerState.queuedAll_keeps PlayerState.assembly PlayerState.queued_assembly ps l
@[simp] theorem PlayerState.queuedAll_restarted (ps : PlayerState) (l : List EventRecord) :
    (ps.queuedAll l).restarted = ps.restarted := PlayerState.queuedAll_keeps PlayerState.restarted PlayerState.queued_restarted ps l
@[simp] theorem PlayerState.queuedAll_received (ps : PlayerState) (l : List EventRecord) :
    (ps.queuedAll l).received = ps.received := PlayerState.queuedAll_keeps PlayerState.received PlayerState.queued_received ps l
@[simp] theorem PlayerState.queuedAll_seqRef (ps : PlayerState) (l : List EventRecord) :
    (ps.queuedAll l).seqRef = ps.seqRef := PlayerState.queuedAll_keeps PlayerState.seqRef PlayerState.queued_seqRef ps l
@[simp] theorem PlayerState.queuedAll_silence (ps : PlayerState) (l : List EventRecord) :
    (ps.queuedAll l).silence = ps.silence := PlayerState.queuedAll_keeps PlayerState.silence PlayerState.queued_silence ps l
@[simp] theorem PlayerState.queuedAll_keyCount (ps : PlayerState) (l : List EventRecord) :
    (ps.queuedAll l).keyCount = ps.keyCount := PlayerState.queuedAll_keeps PlayerState.keyCount PlayerState.queued_keyCount ps l
@[simp] theorem PlayerState.queuedAll_replies (ps : PlayerState) (l : List EventRecord) :
    (ps.queuedAll l).replies = ps.replies := PlayerState.queuedAll_keeps PlayerState.replies PlayerState.queued_replies ps l
@[simp] theorem PlayerState.queuedAll_slot (ps : PlayerState) (l : List EventRecord) :
    (ps.queuedAll l).slot = ps.slot := PlayerState.queuedAll_keeps PlayerState.slot PlayerState.queued_slot ps l
@[simp] theorem PlayerState.queuedAll_threshold (ps : PlayerState) (l : List EventRecord) :
    (ps.queuedAll l).threshold = ps.threshold := PlayerState.queuedAll_keeps PlayerState.threshold PlayerState.queued_threshold ps l
@[simp] theorem PlayerState.queuedAll_maskA (ps : PlayerState) (l : List EventRecord) :
    (ps.queuedAll l).maskA = ps.maskA := PlayerState.queuedAll_keeps PlayerState.maskA PlayerState.queued_maskA ps l
@[simp] theorem PlayerState.queuedAll_maskB (ps : PlayerState) (l : List EventRecord) :
    (ps.queuedAll l).maskB = ps.maskB := PlayerState.queuedAll_keeps PlayerState.maskB PlayerState.queued_maskB ps l
@[simp] theorem PlayerState.queuedAll_denied (ps : PlayerState) (l : List EventRecord) :
    (ps.queuedAll l).denied = ps.denied := PlayerState.queuedAll_keeps PlayerState.denied PlayerState.queued_denied ps l
@[simp] theorem PlayerState.queuedAll_window (ps : PlayerState) (l : List EventRecord) :
    (ps.queuedAll l).window = ps.window := PlayerState.queuedAll_keeps PlayerState.window PlayerState.queued_window ps l

/-- Queuing reads and writes the events and status A alone: it goes past any update of the other fields. -/
theorem PlayerState.queued_update (ps : PlayerState) (g : PlayerState → PlayerState)
    (hg : ∀ x ev st, g { x with events := ev, statusA := st } = { g x with events := ev, statusA := st })
    (e : EventRecord) : (g ps).queued e = g (ps.queued e) := by
  have he : (g ps).events = ps.events := by
    have h := congrArg PlayerState.events (hg ps ps.events ps.statusA)
    exact h
  have hs : (g ps).statusA = ps.statusA := by
    have h := congrArg PlayerState.statusA (hg ps ps.events ps.statusA)
    exact h
  rcases ps.queued_cases e with ⟨hl, hq⟩ | ⟨hl, hq⟩
  · have := hg ps (ps.events ++ [e]) ps.statusA
    rw [hq, this, PlayerState.queued, if_pos (by rw [he]; exact hl), he]
    rw [← hs]
  · have := hg ps ps.events (ps.statusA ||| evqOverflow)
    rw [hq, this, PlayerState.queued, if_neg (by rw [he]; exact Nat.not_lt.2 hl), hs]
    rw [← he]

theorem PlayerState.queuedAll_update (ps : PlayerState) (g : PlayerState → PlayerState)
    (hg : ∀ x ev st, g { x with events := ev, statusA := st } = { g x with events := ev, statusA := st })
    (l : List EventRecord) : (g ps).queuedAll l = g (ps.queuedAll l) := by
  induction l generalizing ps with
  | nil => rfl
  | cons e l ih => rw [queuedAll_cons, queued_update ps g hg, ih, queuedAll_cons]

end Sys2Proof.Machine
end

