-- ==== Sys2Proof/Laws/Leave.lean ====
section
/-! SUPPORT. What the shared endings do, said once for each: the off decision, the emptying of a stack, the end
of a learn, a setup that is applied, and a link that leaves UP. -/

namespace Sys2Proof.Machine

/-! ### The off decision (R89) -/

theorem offDecision_eq (p : Player) (r : OffReason) (s : State) :
    offDecision p r s = { s with
      voices := (offDecision p r s).voices, players := (offDecision p r s).players } := by
  unfold offDecision
  cases h : (s.player p).note with
  | none => rfl
  | some note =>
    simp only [releaseVoice_eq, clearClaim_eq]
    rw [foldl_modVoice_eq (fun vo : Voice => { vo with claim := none }), foldl_modVoice_eq (letGo .sounding)]
    rfl

theorem offDecision_voice (p : Player) (r : OffReason) (s : State) (v : VoiceId) :
    (offDecision p r s).voice v = endedVoice (s.player p) v (s.voice v) := by
  unfold offDecision endedVoice PlayerState.boundList PlayerState.claimedList
  cases h : (s.player p).note with
  | none => simp
  | some note =>
    simp only [releaseVoice_eq, clearClaim_eq, report_voice, State.modPlayer_voice]
    rw [foldl_modVoice_voice (fun vo : Voice => { vo with claim := none }) (fun _ => rfl),
      foldl_modVoice_voice _ (letGo_idem .sounding (by decide))]
    by_cases hb : v ∈ boundVoices note <;> by_cases hc : v ∈ claimedVoices note <;>
      by_cases hs : (s.voice v).state = .sounding <;> simp [hb, hc, hs, letGo, Voice.released]

theorem offDecision_player (p : Player) (r : OffReason) (s : State) (q : Player) :
    (offDecision p r s).player q =
      if q = p then ({ s.player p with note := none }).queuedAll (noteOffRecords s p r.code)
      else s.player q := by
  unfold offDecision noteOffRecords
  cases h : (s.player p).note with
  | none =>
    rcases eq_or_ne q p with rfl | hq
    · simp [← h]
    · simp [hq]
  | some note =>
    simp only [releaseVoice_eq, clearClaim_eq, report_player, State.player_modPlayer]
    rcases eq_or_ne q p with rfl | hq
    · simp [recordOf]
    · simp [hq]

@[simp] theorem offDecision_entry (p : Player) (r : OffReason) (s : State) (n : ChartSlot) (e : EntryId) :
    (offDecision p r s).entry n e = s.entry n e := by rw [offDecision_eq]; rfl
@[simp] theorem offDecision_sampleCount (p : Player) (r : OffReason) (s : State) :
    (offDecision p r s).sampleCount = s.sampleCount := by rw [offDecision_eq]
@[simp] theorem offDecision_freeQueue (p : Player) (r : OffReason) (s : State) :
    (offDecision p r s).freeQueue = s.freeQueue := by rw [offDecision_eq]
@[simp] theorem offDecision_stampCounter (p : Player) (r : OffReason) (s : State) :
    (offDecision p r s).stampCounter = s.stampCounter := by rw [offDecision_eq]
@[simp] theorem offDecision_txn (p : Player) (r : OffReason) (s : State) :
    (offDecision p r s).txn = s.txn := by rw [offDecision_eq]
@[simp] theorem offDecision_miso (p : Player) (r : OffReason) (s : State) :
    (offDecision p r s).miso = s.miso := by rw [offDecision_eq]
@[simp] theorem offDecision_pulse (p : Player) (r : OffReason) (s : State) :
    (offDecision p r s).pulse = s.pulse := by rw [offDecision_eq]
@[simp] theorem offDecision_setup (p : Player) (r : OffReason) (s : State) (n : SetupId) :
    (offDecision p r s).setup n = s.setup n := by rw [offDecision_eq]; rfl

/-! ### The emptying of a stack (R112, R114) -/

theorem clearStack_eq (p : Player) (r : Nat) (s : State) :
    clearStack p r s = { s with
      voices := (clearStack p r s).voices, players := (clearStack p r s).players } := by
  unfold clearStack
  cases h : (s.player p).latch with
  | nil => rfl
  | cons e es => simp only [foldl_releaseEntry]; rw [foldl_modVoice_eq]; rfl

theorem clearStack_voice (p : Player) (r : Nat) (s : State) (v : VoiceId) :
    (clearStack p r s).voice v = unlatchedVoice (s.player p) v (s.voice v) := by
  unfold clearStack unlatchedVoice PlayerState.stackList
  cases h : (s.player p).latch with
  | nil => simp
  | cons e es =>
    simp only [foldl_releaseEntry, report_voice, State.modPlayer_voice]
    rw [foldl_modVoice_voice _ (letGo_idem .latched (by decide))]
    by_cases hm : v ∈ List.flatMap LatchEntry.voices (e :: es) <;>
      by_cases hs : (s.voice v).state = .latched <;> simp_all [letGo, Voice.released]

theorem clearStack_player (p : Player) (r : Nat) (s : State) (q : Player) :
    (clearStack p r s).player q =
      if q = p then ({ s.player p with latch := [] }).queuedAll (latchClearRecords s p r) else s.player q := by
  unfold clearStack latchClearRecords
  cases h : (s.player p).latch with
  | nil =>
    rcases eq_or_ne q p with rfl | hq
    · simp [← h]
    · simp [hq]
  | cons e es =>
    simp only [foldl_releaseEntry, report_player, State.player_modPlayer]
    rcases eq_or_ne q p with rfl | hq
    · simp [recordOf]
    · simp [hq]

@[simp] theorem clearStack_entry (p : Player) (r : Nat) (s : State) (n : ChartSlot) (e : EntryId) :
    (clearStack p r s).entry n e = s.entry n e := by rw [clearStack_eq]; rfl
@[simp] theorem clearStack_sampleCount (p : Player) (r : Nat) (s : State) :
    (clearStack p r s).sampleCount = s.sampleCount := by rw [clearStack_eq]
@[simp] theorem clearStack_freeQueue (p : Player) (r : Nat) (s : State) :
    (clearStack p r s).freeQueue = s.freeQueue := by rw [clearStack_eq]
@[simp] theorem clearStack_stampCounter (p : Player) (r : Nat) (s : State) :
    (clearStack p r s).stampCounter = s.stampCounter := by rw [clearStack_eq]
@[simp] theorem clearStack_txn (p : Player) (r : Nat) (s : State) :
    (clearStack p r s).txn = s.txn := by rw [clearStack_eq]
@[simp] theorem clearStack_miso (p : Player) (r : Nat) (s : State) :
    (clearStack p r s).miso = s.miso := by rw [clearStack_eq]
@[simp] theorem clearStack_pulse (p : Player) (r : Nat) (s : State) :
    (clearStack p r s).pulse = s.pulse := by rw [clearStack_eq]
@[simp] theorem clearStack_setup (p : Player) (r : Nat) (s : State) (n : SetupId) :
    (clearStack p r s).setup n = s.setup n := by rw [clearStack_eq]; rfl

/-! ### The end of a learn (R56 to R59) -/

/-- The LEARN_RESULT of a pending learn is placed (R167). -/
def PlayerState.learnPlaced (ps : PlayerState) (learn : Option LearnRecord) (result : LearnResult) : PlayerState :=
  match learn with
  | none => ps
  | some r => ps.placed (.learnResult r.slot.val result r.entry.val)

theorem endLearn_eq (p : Player) (result : LearnResult) (reply : Bool) (s : State) :
    endLearn p result reply s = { s with
      charts := (endLearn p result reply s).charts, players := (endLearn p result reply s).players } := by
  unfold endLearn
  cases h : (s.player p).learn with
  | none => rfl
  | some r => cases reply <;> rfl

theorem endLearn_entry (p : Player) (result : LearnResult) (reply : Bool) (s : State) (n : ChartSlot)
    (e : EntryId) :
    (endLearn p result reply s).entry n e =
      if (s.player p).learns n e then { s.entry n e with reservation := none } else s.entry n e := by
  unfold endLearn PlayerState.learns
  cases h : (s.player p).learn with
  | none => simp
  | some r =>
    have hd : (dropLearn p r s).entry n e =
        if r.slot = n ∧ r.entry = e then { s.entry n e with reservation := none } else s.entry n e := by
      rw [dropLearn, State.modPlayer_entry, State.entry_modEntry]
      by_cases hne : n = r.slot ∧ e = r.entry
      · obtain ⟨rfl, rfl⟩ := hne; simp
      · rw [if_neg hne, if_neg (fun hx => hne ⟨hx.1.symm, hx.2.symm⟩)]
    cases reply <;> simpa [reportLearn] using hd

theorem endLearn_player (p : Player) (result : LearnResult) (reply : Bool) (s : State) (q : Player) :
    (endLearn p result reply s).player q =
      if q = p then
        (({ s.player p with learn := none }).queuedAll (learnEndedRecords s p result.code)).learnPlaced
          (if reply then (s.player p).learn else none) result
      else s.player q := by
  unfold endLearn learnEndedRecords PlayerState.learnPlaced
  cases h : (s.player p).learn with
  | none =>
    rcases eq_or_ne q p with rfl | hq
    · have e : ({ s.player q with learn := none } : PlayerState) = s.player q := by rw [← h]
      simp [e]
    · simp [hq]
  | some r =>
    rcases eq_or_ne q p with rfl | hq
    · cases reply <;> simp [reportLearn, dropLearn, recordOf]
    · cases reply <;> simp [reportLearn, dropLearn, report_player_other, placeReply_player_other,
        State.player_modPlayer_other, hq]

@[simp] theorem endLearn_voice (p : Player) (result : LearnResult) (reply : Bool) (s : State) (v : VoiceId) :
    (endLearn p result reply s).voice v = s.voice v := by rw [endLearn_eq]; rfl
@[simp] theorem endLearn_sampleCount (p : Player) (result : LearnResult) (reply : Bool) (s : State) :
    (endLearn p result reply s).sampleCount = s.sampleCount := by rw [endLearn_eq]
@[simp] theorem endLearn_freeQueue (p : Player) (result : LearnResult) (reply : Bool) (s : State) :
    (endLearn p result reply s).freeQueue = s.freeQueue := by rw [endLearn_eq]
@[simp] theorem endLearn_stampCounter (p : Player) (result : LearnResult) (reply : Bool) (s : State) :
    (endLearn p result reply s).stampCounter = s.stampCounter := by rw [endLearn_eq]
@[simp] theorem endLearn_txn (p : Player) (result : LearnResult) (reply : Bool) (s : State) :
    (endLearn p result reply s).txn = s.txn := by rw [endLearn_eq]
@[simp] theorem endLearn_miso (p : Player) (result : LearnResult) (reply : Bool) (s : State) :
    (endLearn p result reply s).miso = s.miso := by rw [endLearn_eq]
@[simp] theorem endLearn_pulse (p : Player) (result : LearnResult) (reply : Bool) (s : State) :
    (endLearn p result reply s).pulse = s.pulse := by rw [endLearn_eq]
@[simp] theorem endLearn_setup (p : Player) (result : LearnResult) (reply : Bool) (s : State) (n : SetupId) :
    (endLearn p result reply s).setup n = s.setup n := by rw [endLearn_eq]; rfl

/-! ### A setup that is applied (R21, R22) -/

theorem applySetup_eq (p : Player) (s : State) :
    applySetup p s = { s with charts := (applySetup p s).charts, players := (applySetup p s).players } := by
  unfold applySetup
  rw [endLearn_eq]
  rfl

theorem applySetup_entry (p : Player) (s : State) (n : ChartSlot) (e : EntryId) :
    (applySetup p s).entry n e =
      if (s.player p).learns n e then { s.entry n e with reservation := none } else s.entry n e := by
  have hl : ((report p .setupApplied 0 0 0 (s.player p).selected.val
      (s.modPlayer p fun ps => { ps with active := (s.player p).selected })).player p).learns n e =
      (s.player p).learns n e := by
    simp [PlayerState.learns]
  unfold applySetup
  rw [endLearn_entry, hl]
  simp

theorem applySetup_player (p : Player) (s : State) (q : Player) :
    (applySetup p s).player q =
      if q = p then
        (({ s.player p with active := (s.player p).selected, learn := none }).queuedAll
          (recordOf s .setupApplied 0 0 0 (s.player p).selected.val :: learnEndedRecords s p 6)).learnPlaced
            (s.player p).learn .cancelled
      else s.player q := by
  unfold applySetup
  rw [endLearn_player]
  rcases eq_or_ne q p with rfl | hq
  · have hl : learnEndedRecords
        (report q .setupApplied 0 0 0 (s.player q).selected.val
          (s.modPlayer q fun ps => { ps with active := (s.player q).selected })) q LearnResult.cancelled.code
        = learnEndedRecords s q 6 := by
      simp [learnEndedRecords, LearnResult.code, recordOf]
    rw [if_pos rfl, if_pos rfl, hl]
    simp only [report_player_self, State.player_modPlayer_self, PlayerState.queued_learn, if_true,
      PlayerState.queuedAll_cons]
    congr 2
    exact (PlayerState.queued_update { s.player q with active := (s.player q).selected }
      (fun x => { x with learn := none }) (fun _ _ _ => rfl) _).symm
  · simp [hq, report_player_other, State.player_modPlayer_other]

@[simp] theorem applySetup_voice (p : Player) (s : State) (v : VoiceId) :
    (applySetup p s).voice v = s.voice v := by rw [applySetup_eq]; rfl
@[simp] theorem applySetup_sampleCount (p : Player) (s : State) :
    (applySetup p s).sampleCount = s.sampleCount := by rw [applySetup_eq]
@[simp] theorem applySetup_freeQueue (p : Player) (s : State) :
    (applySetup p s).freeQueue = s.freeQueue := by rw [applySetup_eq]
@[simp] theorem applySetup_stampCounter (p : Player) (s : State) :
    (applySetup p s).stampCounter = s.stampCounter := by rw [applySetup_eq]
@[simp] theorem applySetup_txn (p : Player) (s : State) :
    (applySetup p s).txn = s.txn := by rw [applySetup_eq]
@[simp] theorem applySetup_miso (p : Player) (s : State) :
    (applySetup p s).miso = s.miso := by rw [applySetup_eq]
@[simp] theorem applySetup_pulse (p : Player) (s : State) :
    (applySetup p s).pulse = s.pulse := by rw [applySetup_eq]
@[simp] theorem applySetup_setup (p : Player) (s : State) (n : SetupId) :
    (applySetup p s).setup n = s.setup n := by rw [applySetup_eq]; rfl

theorem deferredSetup_of_waits (p : Player) (before : BreathState) (s : State)
    (h : (∃ n, before = .pending n) ∨ before = .breathing) (hb : (s.player p).breath = .quiet)
    (hs : (s.player p).selected ≠ (s.player p).active) : deferredSetup p before s = applySetup p s := by
  unfold deferredSetup
  rcases h with ⟨n, rfl⟩ | rfl <;> simp [hb, hs]

theorem deferredSetup_of_not (p : Player) (before : BreathState) (s : State)
    (h : before = .quiet ∨ before = .muted ∨ (s.player p).breath ≠ .quiet ∨
      (s.player p).selected = (s.player p).active) : deferredSetup p before s = s := by
  unfold deferredSetup
  cases before with
  | quiet => rfl
  | muted => rfl
  | pending n => exact if_neg fun hx => by simp_all
  | breathing => exact if_neg fun hx => by simp_all

end Sys2Proof.Machine
end

