-- ==== Sys2Proof/Laws/Pool.lean ====
section
/-! SUPPORT. What the pool's operations do, said once for each: freeing, handing over, granting, stealing and
denying. -/

namespace Sys2Proof.Machine

/-! ### Pitch (R120, R126) -/

theorem pitchOf_eq (tuning : Int) (vo : Voice) :
    pitchOf tuning vo = (max 0 (min 12799
      (vo.glideCurrent + 100 * vo.copies.interval + vo.copies.detune + vo.bend + tuning))).toNat := by
  unfold pitchOf clampInt
  congr 1
  split <;> [skip; split] <;> omega

/-- Retuning changes the increment alone. -/
theorem retune_eq (tuning : Int) (vo : Voice) :
    vo.retune tuning = { vo with increment := incrementOf (max 0 (min 12799
      (vo.glideCurrent + 100 * vo.copies.interval + vo.copies.detune + vo.bend + tuning))).toNat } := by
  rw [Voice.retune, pitchOf_eq]

/-- A voice that is granted or handed over is set up afresh, whatever it was. -/
theorem soundFor_eq (s : State) (p : Player) (note : Note) (tag : BitVec 8) (l : LayerId) (vo : Voice) :
    soundFor s p note tag l vo =
      freshVoice s p (s.setup note.setup) note.number (s.player p).bend tag l (s.stampCounter + 1) := by
  unfold soundFor
  rw [retune_eq]
  simp [freshVoice]

/-! ### Held counts (R82) -/

theorem raiseHeld_eq (p : Player) (s : State) : raiseHeld p s = { s with players := (raiseHeld p s).players } := rfl
theorem raiseHeld_player (p : Player) (s : State) (q : Player) :
    (raiseHeld p s).player q = if q = p then { s.player p with held := (s.player p).held + 1 } else s.player q :=
  State.player_modPlayer s p q _
@[simp] theorem raiseHeld_voice (p : Player) (s : State) (v : VoiceId) : (raiseHeld p s).voice v = s.voice v := rfl
@[simp] theorem raiseHeld_freeQueue (p : Player) (s : State) : (raiseHeld p s).freeQueue = s.freeQueue := rfl
theorem lowerHeld_eq (p : Player) (s : State) : lowerHeld p s = { s with players := (lowerHeld p s).players } := rfl
theorem lowerHeld_player (p : Player) (s : State) (q : Player) :
    (lowerHeld p s).player q = if q = p then { s.player p with held := (s.player p).held - 1 } else s.player q :=
  State.player_modPlayer s p q _
@[simp] theorem lowerHeld_voice (p : Player) (s : State) (v : VoiceId) : (lowerHeld p s).voice v = s.voice v := rfl
@[simp] theorem lowerHeld_freeQueue (p : Player) (s : State) : (lowerHeld p s).freeQueue = s.freeQueue := rfl

/-! ### Freeing and handing over (R99 to R101) -/

theorem freeVoice_eq (v : VoiceId) (s : State) :
    freeVoice v s = { s with
      voices := (freeVoice v s).voices, freeQueue := s.freeQueue ++ [v], players := (freeVoice v s).players } := by
  unfold freeVoice
  cases (s.voice v).use <;> rfl

theorem freeVoice_voice (v w : VoiceId) (s : State) :
    (freeVoice v s).voice w =
      if w = v then { s.voice v with state := .free, use := none, claim := none, endReported := false }
      else s.voice w := by
  unfold freeVoice
  cases (s.voice v).use <;> simp [State.voice_modVoice]

theorem freeVoice_player (v : VoiceId) (s : State) (q : Player) :
    (freeVoice v s).player q =
      if (s.voice v).owner = some q then { s.player q with held := (s.player q).held - 1 } else s.player q := by
  unfold freeVoice Voice.owner
  cases (s.voice v).use with
  | none => simp
  | some u =>
    simp only [lowerHeld_player, State.withFree_player, State.modVoice_player, Option.map_some,
      Option.some.injEq]
    rcases eq_or_ne q u.owner with rfl | h
    · simp
    · simp [h, Ne.symm h]

theorem handOver_eq (v : VoiceId) (c : Claim) (note : Note) (s : State) :
    handOver v c note s = { s with
      voices := (handOver v c note s).voices, stampCounter := s.stampCounter + 1,
      players := (handOver v c note s).players } := rfl

theorem handOver_voice (v w : VoiceId) (c : Claim) (note : Note) (s : State) :
    (handOver v c note s).voice w =
      if w = v then freshVoice s c.player (s.setup note.setup) note.number (s.player c.player).bend c.tag c.layer
        (s.stampCounter + 1)
      else s.voice w := by
  simp [handOver, State.voice_modVoice, soundFor_eq]

theorem handOver_player (v : VoiceId) (c : Claim) (note : Note) (s : State) (q : Player) :
    (handOver v c note s).player q =
      if q = c.player then
        { s.player q with note := (s.player q).note.map fun n =>
            { n with binding := n.binding.map (Binding.handOver v) } }
      else s.player q := by
  rcases eq_or_ne q c.player with rfl | h
  · simp [handOver]
  · simp [handOver, State.player_modPlayer_other, h]

/-! ### Granting and denying (R91, R95) -/

theorem grantVoice_eq (v : VoiceId) (rest : List VoiceId) (p : Player) (note : Note) (l : LayerId) (s : State) :
    grantVoice v rest p note l s = { s with
      voices := (grantVoice v rest p note l s).voices, freeQueue := rest,
      stampCounter := s.stampCounter + 1, players := (grantVoice v rest p note l s).players } := rfl

theorem grantVoice_voice (v w : VoiceId) (rest : List VoiceId) (p : Player) (note : Note) (l : LayerId)
    (s : State) :
    (grantVoice v rest p note l s).voice w =
      if w = v then freshVoice s p (s.setup note.setup) note.number (s.player p).bend note.tag l (s.stampCounter + 1)
      else s.voice w := by
  simp [grantVoice, State.voice_modVoice, soundFor_eq]

theorem grantVoice_player (v : VoiceId) (rest : List VoiceId) (p : Player) (note : Note) (l : LayerId) (s : State)
    (q : Player) :
    (grantVoice v rest p note l s).player q =
      if q = p then { s.player p with held := (s.player p).held + 1 } else s.player q := by
  simp [grantVoice, raiseHeld_player]

theorem denyLayer_eq (p : Player) (number : Nat) (l : LayerId) (s : State) :
    denyLayer p number l s = { s with players := (denyLayer p number l s).players } := rfl

theorem denyLayer_player (p : Player) (number : Nat) (l : LayerId) (s : State) (q : Player) :
    (denyLayer p number l s).player q =
      if q = p then PlayerState.placed { s.player p with denied := true } (.denied number l) else s.player q := by
  unfold denyLayer
  rw [placeReply_player]
  rcases eq_or_ne q p with rfl | h
  · simp
  · simp [h, State.player_modPlayer_other]

/-! ### Stealing (R96, R97, R113) -/

theorem seizeVoice_eq (v : VoiceId) (u : VoiceUse) (p : Player) (tag : BitVec 8) (l : LayerId) (s : State) :
    seizeVoice v u p tag l s = { s with
      voices := (seizeVoice v u p tag l s).voices, players := (seizeVoice v u p tag l s).players } := rfl

theorem seizeVoice_voice (v w : VoiceId) (u : VoiceUse) (p : Player) (tag : BitVec 8) (l : LayerId) (s : State) :
    (seizeVoice v u p tag l s).voice w = if w = v then (s.voice v).stolen p tag l else s.voice w := by
  simp [seizeVoice, State.voice_modVoice]

theorem seizeVoice_player (v : VoiceId) (u : VoiceUse) (p : Player) (tag : BitVec 8) (l : LayerId) (s : State)
    (r : Player) :
    (seizeVoice v u p tag l s).player r =
      { (if r = u.owner then (s.player r).detached v (s.voice v).state else s.player r) with
        held := (s.player r).held - (if r = u.owner then 1 else 0) + (if r = p then 1 else 0) } := by
  have hd : ((s.player r).detached v (s.voice v).state).held = (s.player r).held := by
    cases (s.voice v).state <;> rfl
  simp only [seizeVoice, State.modVoice_player, raiseHeld_player, lowerHeld_player, State.player_modPlayer]
  by_cases h1 : r = u.owner <;> by_cases h2 : r = p
  · subst h1; subst h2; simp [hd]
  · subst h1; simp [h2, hd]
  · subst h2; simp [h1]
  · simp [h1, h2]

/-- What a robbed player's record takes of a steal's records and replies, in order (R97, R113). -/
def PlayerState.told (ps : PlayerState) (s : State) (v : VoiceId) (u : VoiceUse) (d : Option LatchEntry) :
    PlayerState :=
  let ps := (ps.queued (recordOf s .voiceTaken u.tag (lastNote (s.voice v))
    (takenFlags u.layer (s.voice v).state) v.val)).placed (.taken (lastNote (s.voice v)) u.layer v)
  match d with
  | none => ps
  | some e => (ps.queued (recordOf s .latchDrop e.tag e.number e.flag.byte 2)).placed (.latchDropped e.number)

theorem stealVoice_of_none (v : VoiceId) (p : Player) (tag : BitVec 8) (l : LayerId) (s : State)
    (h : (s.voice v).use = none) : stealVoice v p tag l s = s := by simp [stealVoice, h]

theorem tellTaken_eq (v : VoiceId) (vo : Voice) (u : VoiceUse) (s : State) :
    tellTaken v vo u s = { s with players := (tellTaken v vo u s).players } := rfl

theorem tellDropped_eq (q : Player) (d : Option LatchEntry) (s : State) :
    tellDropped q d s = { s with players := (tellDropped q d s).players } := by cases d <;> rfl

theorem stealVoice_eq (v : VoiceId) (p : Player) (tag : BitVec 8) (l : LayerId) (s : State) :
    stealVoice v p tag l s = { s with
      voices := (stealVoice v p tag l s).voices, players := (stealVoice v p tag l s).players } := by
  unfold stealVoice
  cases (s.voice v).use with
  | none => rfl
  | some u => dsimp only; rw [tellDropped_eq]; rfl

theorem stealVoice_voice (v w : VoiceId) (p : Player) (tag : BitVec 8) (l : LayerId) (u : VoiceUse) (s : State)
    (h : (s.voice v).use = some u) :
    (stealVoice v p tag l s).voice w =
      if w = v then
        { s.voice v with
          state := .fading, use := some { u with owner := p }, target := 0,
          claim := some { player := p, tag := tag, layer := l }, endReported := false }
      else s.voice w := by
  have hs : (s.voice v).stolen p tag l =
      { s.voice v with
        state := .fading, use := some { u with owner := p }, target := 0,
        claim := some { player := p, tag := tag, layer := l }, endReported := false } := by
    simp [Voice.stolen, h]
  unfold stealVoice
  rw [h]
  dsimp only
  rw [tellDropped_eq, ← hs, ← seizeVoice_voice v w u]
  rfl

theorem stealVoice_player (v : VoiceId) (p : Player) (tag : BitVec 8) (l : LayerId) (u : VoiceUse) (s : State)
    (h : (s.voice v).use = some u) (r : Player) :
    (stealVoice v p tag l s).player r =
      if r = u.owner then
        ((seizeVoice v u p tag l s).player r).told s v u (droppedEntry v (s.voice v) (s.player u.owner))
      else (seizeVoice v u p tag l s).player r := by
  unfold stealVoice PlayerState.told
  simp only [h]
  rcases eq_or_ne r u.owner with rfl | hr
  · cases droppedEntry v (s.voice v) (s.player u.owner) <;>
      simp [tellDropped, tellTaken, placeReply_player_self, report_player_self, recordOf, seizeVoice] <;> rfl
  · cases droppedEntry v (s.voice v) (s.player u.owner) <;>
      simp [tellDropped, tellTaken, placeReply_player_other, report_player_other, hr]

end Sys2Proof.Machine
end

