-- ==== Sys2Proof/Laws/Desk.lean ====
section
/-! SUPPORT. What a data byte of the desk port does beside its effect: the port returns a byte and moves on. -/

namespace Sys2Proof.Machine

/-- A byte written where the port stands has its effect, and the port moves on (R169, R170). -/
theorem deskWriteByte_stands {s : State} {a : Half} (h : Stands s .write a) (eff : State → State)
    (g : Transaction → Transaction) (hg : ∀ x, (g x).addr = x.addr ∧ (g x).count = x.count)
    (ht : (eff s).txn = s.txn.map g) (hm : (eff s).miso = s.miso) :
    deskWriteByte a eff s = { eff s with
      txn := (deskWriteByte a eff s).txn, miso := (deskWriteByte a eff s).miso } ∧
    PortMoved s (deskWriteByte a eff s) 0 g := by
  rcases h with h | ⟨x, hx, hop, ha⟩
  · rw [h] at ht
    have he : deskWriteByte a eff s = { eff s with miso := stageBytes ++ [0] } := by simp [deskWriteByte, h]
    rw [he]
    exact ⟨rfl, by simpa [h] using ht, by simp [h, stageBytes]⟩
  · have he : deskWriteByte a eff s = moveOn 0 (eff s) := by simp [deskWriteByte, hx, hop, ha]
    rw [he]
    refine ⟨rfl, ?_, ?_⟩
    · simp only [moveOn, ht, hx, Option.map_some, (hg x).1, (hg x).2]
    · simp [moveOn, hm, hx]

/-- A byte whose effect leaves the port alone. -/
theorem deskWriteByte_plain {s : State} {a : Half} (h : Stands s .write a) (eff : State → State)
    (ht : (eff s).txn = s.txn) (hm : (eff s).miso = s.miso) :
    deskWriteByte a eff s = { eff s with
      txn := (deskWriteByte a eff s).txn, miso := (deskWriteByte a eff s).miso } ∧
    PortMoved s (deskWriteByte a eff s) 0 id :=
  deskWriteByte_stands h eff id (fun _ => ⟨rfl, rfl⟩) (by simpa using ht) hm

/-- With no transaction in progress a byte read is a transaction of its own (log 7). -/
theorem deskReadByte_alone {s : State} (h : s.txn = none) (a : Half) (take : State → State × Byte) :
    deskReadByte a take s = { (take s).1 with miso := [0, 0, 0, (take s).2] } := by
  simp [deskReadByte, h, stageBytes]

/-- In a read transaction that stands at the address, the byte on the port is clocked out and the next one is
taken as it ends (R169). -/
theorem deskReadByte_clocks {s : State} {x : Transaction} (h : s.txn = some x) (hop : x.op = .read)
    (take : State → State × Byte) : deskReadByte x.addr take s = takeAhead (moveOn x.out s) := by
  simp [deskReadByte, h, hop]

/-- In a read transaction the byte at its address is taken, and driven out (R169). -/
theorem takeAhead_of_read {s : State} {x : Transaction} (h : s.txn = some x) (hop : x.op = .read) :
    takeAhead s = (takeByteAt x.addr s).1.modTxn fun y => { y with out := (takeByteAt x.addr s).2 } := by
  simp [takeAhead, h, hop]

/-- Nothing is taken ahead but in a read transaction (R169). -/
theorem takeAhead_of_write {s : State} (h : ∀ x, s.txn = some x → x.op ≠ .read) : takeAhead s = s := by
  unfold takeAhead
  cases ht : s.txn with
  | none => rfl
  | some x =>
    have hx := h x ht
    cases ho : x.op with
    | read => exact absurd ho hx
    | write => simp [ho]
    | void => simp [ho]

/-- A byte written by DESK_WRITE where the port stands in a write. -/
theorem deskByte_write {s : State} {a : Half} (h : Stands s .write a) (v : Byte) :
    deskByte a v s = deskWriteByte a (writeByteAt a v) s := by
  rcases h with h | ⟨x, hx, hop, _⟩
  · simp [deskByte, h]
  · simp [deskByte, hx, hop]

end Sys2Proof.Machine
end

