-- ==== Sys2Proof/Laws/Playing.lean ====
section
/-! SUPPORT. What playing leaves alone: every operation of the pool, the note controller and the latch stack
changes only voices and what `PlayedOnly` allows of the players' records. -/

namespace Sys2Proof.Machine

/-! ### Players' records -/

theorem PlayedOnly.refl (a : PlayerState) : PlayedOnly a a := ⟨rfl, 0, by simp, by decide⟩

theorem PlayedOnly.trans {a b c : PlayerState} (h : PlayedOnly a b) (k : PlayedOnly b c) : PlayedOnly a c := by
  obtain ⟨hb, m, hm, hz⟩ := h
  obtain ⟨kb, n, kn, kz⟩ := k
  refine ⟨?_, m ||| n, by rw [kn, hm, BitVec.or_assoc], ?_⟩
  · rw [kb, hb]
  · rw [BitVec.and_comm, BitVec.and_or_distrib_left, BitVec.and_comm, hz, BitVec.and_comm, kz]; decide

/-- An update that leaves status A and everything but what playing touches alone. -/
theorem PlayedOnly.of_eq {a b : PlayerState}
    (h : b = { a with
      note := b.note, tagCounter := b.tagCounter, latch := b.latch, held := b.held, replies := b.replies,
      denied := b.denied, events := b.events }) : PlayedOnly a b := by
  have hs : b.statusA = a.statusA := by rw [h]
  exact ⟨by rw [h], 0, by simp [hs], by decide⟩

theorem PlayedOnly.queued (a : PlayerState) (e : EventRecord) : PlayedOnly a (a.queued e) := by
  rcases a.queued_cases e with ⟨_, h⟩ | ⟨_, h⟩ <;> rw [h]
  · exact PlayedOnly.of_eq rfl
  · exact ⟨rfl, 0x40, rfl, by decide⟩

theorem PlayedOnly.placed (a : PlayerState) (r : Reply) : PlayedOnly a (a.placed r) := by
  rcases a.placed_cases r with ⟨_, h⟩ | ⟨_, h⟩ <;> rw [h]
  · exact PlayedOnly.of_eq rfl
  · exact ⟨rfl, 0x80, rfl, by decide⟩

theorem PlayedOnly.queuedAll (a : PlayerState) (l : List EventRecord) : PlayedOnly a (a.queuedAll l) := by
  induction l generalizing a with
  | nil => exact .refl a
  | cons e l ih => exact (PlayedOnly.queued a e).trans (ih _)

theorem PlayedOnly.told (a : PlayerState) (s : State) (v : VoiceId) (u : VoiceUse) (d : Option LatchEntry) :
    PlayedOnly a (a.told s v u d) := by
  unfold PlayerState.told
  cases d with
  | none => exact (PlayedOnly.queued a _).trans (.placed _ _)
  | some e =>
    exact (((PlayedOnly.queued a _).trans (.placed _ _)).trans (.queued _ _)).trans (.placed _ _)

theorem PlayedOnly.detached (a : PlayerState) (v : VoiceId) (st : VoiceState) : PlayedOnly a (a.detached v st) := by
  cases st <;> exact PlayedOnly.of_eq rfl

/-! ### States -/

theorem SoundsOnly.refl (s : State) : SoundsOnly s s := ⟨rfl, fun _ => .refl _⟩

theorem SoundsOnly.trans {s t r : State} (h : SoundsOnly s t) (k : SoundsOnly t r) : SoundsOnly s r :=
  ⟨by rw [k.1, h.1], fun q => (h.2 q).trans (k.2 q)⟩

/-- A state that differs in voices and players alone. -/
theorem SoundsOnly.of_players {s t : State} (h : t = { s with voices := t.voices, players := t.players })
    (hp : ∀ q, PlayedOnly (s.player q) (t.player q)) : SoundsOnly s t := ⟨by rw [h], hp⟩

/-- One player's record changes as playing may change it. -/
theorem SoundsOnly.modPlayer (s : State) (p : Player) (f : PlayerState → PlayerState)
    (h : PlayedOnly (s.player p) (f (s.player p))) : SoundsOnly s (s.modPlayer p f) := by
  refine .of_players rfl fun q => ?_
  rw [State.player_modPlayer]
  split
  · next hq => subst hq; exact h
  · exact .refl _

theorem SoundsOnly.modVoice (s : State) (v : VoiceId) (f : Voice → Voice) : SoundsOnly s (s.modVoice v f) :=
  .of_players rfl fun _ => .refl _

theorem SoundsOnly.foldl_modVoice (f : Voice → Voice) (l : List VoiceId) (s : State) :
    SoundsOnly s (l.foldl (fun t v => t.modVoice v f) s) :=
  foldl_extends SoundsOnly _ .refl .trans l s fun b v _ => .modVoice b v f

theorem SoundsOnly.report (s : State) (p : Player) (k : EventKind) (tag : BitVec 8) (note : Nat) (fl : Byte)
    (value : Nat) : SoundsOnly s (report p k tag note fl value s) :=
  .modPlayer s p (fun ps => ps.queued (s.stamped k tag note fl value)) (.queued _ _)

theorem SoundsOnly.placeReply (s : State) (p : Player) (r : Reply) : SoundsOnly s (placeReply p r s) :=
  .modPlayer s p (fun ps => ps.placed r) (.placed _ _)

theorem SoundsOnly.bind (s : State) (p : Player) (b : Binding) : SoundsOnly s (bind p b s) :=
  .modPlayer s p _ (.of_eq rfl)

theorem SoundsOnly.beginNote (s : State) (p : Player) (note : Note) : SoundsOnly s (beginNote p note s) :=
  .modPlayer s p _ (.of_eq rfl)

theorem SoundsOnly.stealVoice (v : VoiceId) (p : Player) (tag : BitVec 8) (l : LayerId) (s : State) :
    SoundsOnly s (stealVoice v p tag l s) := by
  cases h : (s.voice v).use with
  | none => rw [stealVoice_of_none v p tag l s h]; exact .refl s
  | some u =>
    refine .of_players (stealVoice_eq v p tag l s) fun q => ?_
    have hz : PlayedOnly (s.player q) ((seizeVoice v u p tag l s).player q) := by
      rw [seizeVoice_player]
      split
      · exact (PlayedOnly.detached _ _ _).trans (.of_eq rfl)
      · exact .of_eq rfl
    rw [stealVoice_player v p tag l u s h]
    split
    · exact hz.trans (.told _ _ _ _ _)
    · exact hz

theorem SoundsOnly.grantVoice (v : VoiceId) (rest : List VoiceId) (p : Player) (note : Note) (l : LayerId)
    (s : State) : SoundsOnly s (grantVoice v rest p note l s) := by
  refine ⟨rfl, fun q => ?_⟩
  rw [grantVoice_player]
  split
  · next hq => subst hq; exact .of_eq rfl
  · exact .refl _

theorem SoundsOnly.denyLayer (p : Player) (number : Nat) (l : LayerId) (s : State) :
    SoundsOnly s (denyLayer p number l s) :=
  (SoundsOnly.modPlayer s p (fun ps => { ps with denied := true }) (.of_eq rfl)).trans (.placeReply _ _ _)

theorem SoundsOnly.layerRequest (p : Player) (note : Note) (l : LayerId) (s : State) :
    SoundsOnly s (layerRequest p note l s) := by
  refine SoundsOnly.trans (t := (poolChoice s p).apply p note l s) ?_ (.bind _ _ _)
  cases poolChoice s p with
  | grant v rest => exact .grantVoice v rest p note l s
  | steal v => exact .stealVoice v p note.tag l s
  | deny => exact .denyLayer p note.number l s

theorem SoundsOnly.layerRequests (p : Player) (note : Note) (ls : List LayerId) (s : State) :
    SoundsOnly s (ls.foldl (fun t l => Machine.layerRequest p note l t) s) :=
  foldl_extends SoundsOnly _ .refl .trans ls s fun b l _ => .layerRequest p note l b

theorem SoundsOnly.reportOnset (p : Player) (note : Note) (s : State) : SoundsOnly s (reportOnset p note s) :=
  (SoundsOnly.report s p _ _ _ _ _).trans
    (foldl_extends SoundsOnly _ .refl .trans _ _ fun b _ _ => .report b p _ _ _ _ _)

theorem SoundsOnly.onsetDecision (p : Player) (n : Nat) (fl : RangeFlag) (s : State) :
    SoundsOnly s (onsetDecision p n fl s) := by
  unfold Machine.onsetDecision
  exact ((SoundsOnly.beginNote s p (newNote s p n fl)).trans (.layerRequests p _ _ _)).trans
    (.reportOnset p _ _)

theorem SoundsOnly.changeDecision (p : Player) (n : Nat) (fl : RangeFlag) (s : State) :
    SoundsOnly s (changeDecision p n fl s) := by
  unfold Machine.changeDecision
  cases (s.player p).note with
  | none => exact .refl s
  | some note =>
    exact ((SoundsOnly.foldl_modVoice (fun vo : Voice => { vo with glideTarget := 100 * n }) _ s).trans
      (.modPlayer _ p (fun ps => { ps with note := some { note with number := n, flag := fl } })
        (.of_eq rfl))).trans (.report _ _ _ _ _ _ _)

theorem SoundsOnly.offDecision (p : Player) (r : OffReason) (s : State) : SoundsOnly s (offDecision p r s) := by
  refine .of_players (offDecision_eq p r s) fun q => ?_
  rw [offDecision_player]
  split
  · next hq =>
    subst hq
    exact PlayedOnly.trans (b := { s.player q with note := none }) (.of_eq rfl) (.queuedAll _ _)
  · exact .refl _

theorem SoundsOnly.decide (p : Player) (r : BreathReport) (res : Resolution) (s : State) :
    SoundsOnly s (decide p r res s) := by
  unfold Machine.decide
  cases decisionFor r (s.player p).breath res (s.activeSetup p).policy (s.player p).note with
  | none => exact .refl s
  | onset n f => exact .onsetDecision p n f s
  | change n f => exact .changeDecision p n f s
  | off reason => exact .offDecision p reason s

theorem SoundsOnly.updatePitch (p : Player) (s : State) : SoundsOnly s (updatePitch p s) := .foldl_modVoice _ _ s

theorem SoundsOnly.handOff (p : Player) (s : State) : SoundsOnly s (handOff p s) := .foldl_modVoice _ _ s

theorem SoundsOnly.clearStack (p : Player) (r : Nat) (s : State) : SoundsOnly s (clearStack p r s) := by
  refine .of_players (clearStack_eq p r s) fun q => ?_
  rw [clearStack_player]
  split
  · next hq =>
    subst hq
    exact PlayedOnly.trans (b := { s.player q with latch := [] }) (.of_eq rfl) (.queuedAll _ _)
  · exact .refl _

theorem SoundsOnly.makeRoom (p : Player) (s : State) : SoundsOnly s (makeRoom p s) := by
  unfold Machine.makeRoom
  cases (s.player p).latch with
  | nil => exact .refl s
  | cons e es =>
    dsimp only
    split
    · exact .refl s
    · exact ((SoundsOnly.foldl_modVoice (letGo .latched) e.voices s).trans
        (.modPlayer _ p (fun ps => { ps with latch := es }) (.of_eq rfl))).trans (.report _ _ _ _ _ _ _)

theorem SoundsOnly.latchNote (p : Player) (note : Note) (s : State) : SoundsOnly s (latchNote p note s) :=
  (((SoundsOnly.foldl_modVoice _ _ s).trans (.modPlayer _ p
    (fun ps => { ps with latch := ps.latch ++ [latchEntryOf s p note (s.noteVoices p)], note := none })
    (.of_eq rfl))).trans (.foldl_modVoice (fun vo : Voice => { vo with claim := none }) _ _)).trans (.report _ _ _ _ _ _ _)

theorem SoundsOnly.press (p : Player) (s : State) : SoundsOnly s (press p s) := by
  unfold Machine.press
  split
  · split
    · exact .refl s
    · exact ((SoundsOnly.makeRoom p s).trans (.latchNote p _ _)).trans (.onsetDecision _ _ _ _)
  · exact .refl s
  · exact .clearStack p 1 s
  · exact .clearStack p 1 s
  · exact .clearStack p 1 s
  · exact .refl s

end Sys2Proof.Machine
end

