-- ==== Sys2Proof/Laws/Links.lean ====
section
/-! SUPPORT. What a link that leaves UP does, said once for its three causes: to the player's record, to the
voices it held and to the entry its learn held (R158, R160, R161). -/

namespace Sys2Proof.Machine

/-- A record with a field-by-field update done after queuing is the updated record with the same queuing. -/
theorem PlayerState.queuedAll_then (ps : PlayerState) (l : List EventRecord) (g : PlayerState → PlayerState)
    (hg : ∀ x ev st, g { x with events := ev, statusA := st } = { g x with events := ev, statusA := st }) :
    g (ps.queuedAll l) = (g ps).queuedAll l := (PlayerState.queuedAll_update ps g hg l).symm

/-- Placing a reply reads and writes the replies and status A alone. -/
theorem PlayerState.placed_queuedAll (ps : PlayerState) (r : Reply) (l : List EventRecord) :
    (ps.placed r).queuedAll l = (ps.queuedAll l).placed r := by
  induction l generalizing ps with
  | nil => rfl
  | cons e l ih =>
    rw [queuedAll_cons, queuedAll_cons, ← ih]
    congr 1
    rcases ps.placed_cases r with ⟨hr, hp⟩ | ⟨hr, hp⟩ <;> rcases ps.queued_cases e with ⟨he, hq⟩ | ⟨he, hq⟩ <;>
      rw [hp, hq] <;> unfold PlayerState.placed PlayerState.queued eventQueueSize replyQueueSize <;>
      simp [hr, he, Nat.not_lt.2 hr, Nat.not_lt.2 he, BitVec.or_assoc, BitVec.or_comm rpqOverflow]

theorem PlayerState.learnPlaced_queuedAll (ps : PlayerState) (learn : Option LearnRecord) (res : LearnResult)
    (l : List EventRecord) : (ps.learnPlaced learn res).queuedAll l = (ps.queuedAll l).learnPlaced learn res := by
  cases learn with
  | none => rfl
  | some r => exact PlayerState.placed_queuedAll _ _ _

theorem leaving_eq (p : Player) (cause : LostCause) (after : LinkState) (s : State) :
    leaving p cause after s = { s with
      voices := (leaving p cause after s).voices, players := (leaving p cause after s).players,
      charts := (leaving p cause after s).charts } := by
  unfold leaving
  dsimp only
  rw [endLearn_eq, State.modPlayer, clearStack_eq, offDecision_eq]
  rfl

/-- What a player's note and stack hold decides what becomes of a voice when they end. -/
theorem unlatchedVoice_congr {ps ps' : PlayerState} (h : ps.latch = ps'.latch) (v : VoiceId) (vo : Voice) :
    unlatchedVoice ps v vo = unlatchedVoice ps' v vo := by
  unfold unlatchedVoice PlayerState.stackList; rw [h]

theorem endedVoice_congr {ps ps' : PlayerState} (h : ps.note = ps'.note) (v : VoiceId) (vo : Voice) :
    endedVoice ps v vo = endedVoice ps' v vo := by
  unfold endedVoice PlayerState.boundList PlayerState.claimedList; rw [h]

theorem leaving_voice (p : Player) (cause : LostCause) (after : LinkState) (s : State) (v : VoiceId) :
    (leaving p cause after s).voice v =
      unlatchedVoice (s.player p) v (endedVoice (s.player p) v (s.voice v)) := by
  unfold leaving
  simp only [endLearn_voice, State.modPlayer_voice, clearStack_voice, offDecision_voice, offDecision_player,
    if_true, State.player_modPlayer_self, report_player_self, report_voice]
  rw [unlatchedVoice_congr (ps' := s.player p), endedVoice_congr (ps' := s.player p)]
  · simp [PlayerState.unlinked]
  · simp [PlayerState.unlinked]

theorem leaving_entry (p : Player) (cause : LostCause) (after : LinkState) (s : State) (n : ChartSlot)
    (e : EntryId) :
    (leaving p cause after s).entry n e =
      if (s.player p).learns n e then { s.entry n e with reservation := none } else s.entry n e := by
  unfold leaving
  simp only [endLearn_entry, State.modPlayer_entry, clearStack_entry, offDecision_entry, report_entry,
    State.player_modPlayer_self, clearStack_player, offDecision_player, report_player_self, if_true]
  congr 2
  simp [PlayerState.learns, PlayerState.unlinked]

/-- The records of a link that leaves UP but for the waiting setup's (R158 steps 2 and 4 to 6). -/
def leavingRecords (s : State) (p : Player) (cause : Nat) : List EventRecord :=
  [recordOf s .linkLost 0 0 0 cause] ++ noteOffRecords s p 3 ++ latchClearRecords s p 2 ++ learnEndedRecords s p 6

theorem noteOffRecords_congr {s t : State} {p : Player} (h : (t.player p).note = (s.player p).note)
    (hc : t.sampleCount = s.sampleCount) (r : Nat) : noteOffRecords t p r = noteOffRecords s p r := by
  unfold noteOffRecords recordOf; rw [h, hc]

theorem latchClearRecords_congr {s t : State} {p : Player} (h : (t.player p).latch = (s.player p).latch)
    (hc : t.sampleCount = s.sampleCount) (r : Nat) : latchClearRecords t p r = latchClearRecords s p r := by
  unfold latchClearRecords recordOf; rw [h, hc]

theorem learnEndedRecords_congr {s t : State} {p : Player} (h : (t.player p).learn = (s.player p).learn)
    (hc : t.sampleCount = s.sampleCount) (r : Nat) : learnEndedRecords t p r = learnEndedRecords s p r := by
  unfold learnEndedRecords recordOf; rw [h, hc]

/-- The player's record before the waiting setup is applied. -/
def PlayerState.leftUnapplied (ps : PlayerState) (after : LinkState) : PlayerState :=
  { ps.unlinked after with breath := .quiet, note := none, latch := [], latchSeen := false, learn := none }

theorem leaving_player (p : Player) (cause : LostCause) (after : LinkState) (s : State) (q : Player) :
    (leaving p cause after s).player q =
      if q = p then
        (((s.player p).leftUnapplied after).queuedAll (leavingRecords s p cause.code)).learnPlaced
          (if cause = .disabled then (s.player p).learn else none) .cancelled
      else s.player q := by
  rcases eq_or_ne q p with rfl | hq
  · rw [if_pos rfl]
    unfold leaving
    simp only [endLearn_player, if_true, State.player_modPlayer_self, clearStack_player, offDecision_player,
      report_player_self]
    rw [noteOffRecords_congr (s := s), latchClearRecords_congr (s := s), learnEndedRecords_congr (s := s)]
    · have hl : ∀ x : PlayerState, x.learn = (s.player q).learn →
          (if Decidable.decide (cause = LostCause.disabled) = true then x.learn else none) =
          (if cause = .disabled then (s.player q).learn else none) := by
        intro x hx; rw [hx]; by_cases hc : cause = .disabled <;> simp [hc]
      rw [hl _ (by simp [PlayerState.unlinked])]
      congr 1
      have e1 : ∀ (X : PlayerState) l, { X.queuedAll l with breath := .quiet, note := none } =
          ({ X with breath := .quiet, note := none } : PlayerState).queuedAll l :=
        fun X l => PlayerState.queuedAll_then X l (fun x => { x with breath := .quiet, note := none })
          fun _ _ _ => rfl
      have e2 : ∀ (X : PlayerState) l, { X.queuedAll l with latch := [] } =
          ({ X with latch := [] } : PlayerState).queuedAll l :=
        fun X l => PlayerState.queuedAll_then X l (fun x => { x with latch := [] }) fun _ _ _ => rfl
      have e3 : ∀ (X : PlayerState) l, { X.queuedAll l with latchSeen := false, learn := none } =
          ({ X with latchSeen := false, learn := none } : PlayerState).queuedAll l :=
        fun X l => PlayerState.queuedAll_then X l (fun x => { x with latchSeen := false, learn := none })
          fun _ _ _ => rfl
      have e0 : ∀ (X : PlayerState) r, X.queued r = X.queuedAll [r] := fun _ _ => rfl
      rw [e0]
      simp only [e1, e2, e3, ← PlayerState.queuedAll_append]
      rfl
    all_goals simp [PlayerState.unlinked, clearStack_player, offDecision_player]
  · rw [if_neg hq]
    unfold leaving
    simp [endLearn_player, State.player_modPlayer_other, clearStack_player, offDecision_player,
      report_player_other, hq]

/-! ### The whole leaving -/

theorem leaving_player_self (p : Player) (cause : LostCause) (after : LinkState) (s : State) :
    ((leaving p cause after s).player p).breath = .quiet ∧
    ((leaving p cause after s).player p).selected = (s.player p).selected ∧
    ((leaving p cause after s).player p).active = (s.player p).active ∧
    ((leaving p cause after s).player p).learn = none ∧
    (leaving p cause after s).sampleCount = s.sampleCount := by
  have hl : ∀ (x : PlayerState) (learn : Option LearnRecord) (res : LearnResult),
      (x.learnPlaced learn res).breath = x.breath ∧ (x.learnPlaced learn res).selected = x.selected ∧
      (x.learnPlaced learn res).active = x.active ∧ (x.learnPlaced learn res).learn = x.learn := by
    intro x learn res; cases learn <;> simp [PlayerState.learnPlaced]
  rw [leaving_player, if_pos rfl]
  refine ⟨?_, ?_, ?_, ?_, by rw [leaving_eq]⟩
  · rw [(hl _ _ _).1]; simp [PlayerState.leftUnapplied]
  · rw [(hl _ _ _).2.1]; simp [PlayerState.leftUnapplied, PlayerState.unlinked]
  · rw [(hl _ _ _).2.2.1]; simp [PlayerState.leftUnapplied, PlayerState.unlinked]
  · rw [(hl _ _ _).2.2.2]; simp [PlayerState.leftUnapplied]

/-- The deferred setup change of a leaving link is taken just when a selection waits. -/
theorem leaveUp_cases (p : Player) (cause : LostCause) (after : LinkState) (s : State) :
    leaveUp p cause after s =
      if (s.player p).waits then applySetup p (leaving p cause after s) else leaving p cause after s := by
  obtain ⟨hb, hs, ha, _, _⟩ := leaving_player_self p cause after s
  unfold leaveUp PlayerState.waits
  cases h : (s.player p).breath with
  | quiet => simp [deferredSetup]
  | muted => simp [deferredSetup]
  | pending n => simp [deferredSetup, hb, hs, ha]
  | breathing => simp [deferredSetup, hb, hs, ha]

theorem leaveUp_eq (p : Player) (cause : LostCause) (after : LinkState) (s : State) :
    leaveUp p cause after s = { s with
      voices := (leaveUp p cause after s).voices, players := (leaveUp p cause after s).players,
      charts := (leaveUp p cause after s).charts } := by
  rw [leaveUp_cases]
  split
  · rw [applySetup_eq, leaving_eq]
  · exact leaving_eq p cause after s

theorem leaveUp_voice (p : Player) (cause : LostCause) (after : LinkState) (s : State) (v : VoiceId) :
    (leaveUp p cause after s).voice v =
      unlatchedVoice (s.player p) v (endedVoice (s.player p) v (s.voice v)) := by
  rw [leaveUp_cases]
  split
  · rw [applySetup_voice, leaving_voice]
  · exact leaving_voice p cause after s v

theorem leaveUp_entry (p : Player) (cause : LostCause) (after : LinkState) (s : State) (n : ChartSlot)
    (e : EntryId) :
    (leaveUp p cause after s).entry n e =
      if (s.player p).learns n e then { s.entry n e with reservation := none } else s.entry n e := by
  obtain ⟨_, _, _, hl, _⟩ := leaving_player_self p cause after s
  rw [leaveUp_cases]
  split
  · rw [applySetup_entry, leaving_entry]
    simp [PlayerState.learns, hl]
  · exact leaving_entry p cause after s n e

theorem leaveUp_player (p : Player) (cause : LostCause) (after : LinkState) (s : State) (q : Player) :
    (leaveUp p cause after s).player q =
      if q = p then
        (((s.player p).left after).queuedAll (leaveRecords s p cause.code)).learnPlaced
          (if cause = .disabled then (s.player p).learn else none) .cancelled
      else s.player q := by
  obtain ⟨_, hs, _, hl, hc⟩ := leaving_player_self p cause after s
  rw [leaveUp_cases]
  rcases eq_or_ne q p with rfl | hq
  · rw [if_pos rfl]
    cases hw : (s.player q).waits with
    | true =>
      have e : ∀ (X : PlayerState) l,
          { X.queuedAll l with active := (s.player q).selected, learn := none } =
          ({ X with active := (s.player q).selected, learn := none } : PlayerState).queuedAll l :=
        fun X l => PlayerState.queuedAll_then X l
          (fun x => { x with active := (s.player q).selected, learn := none }) fun _ _ _ => rfl
      have f : ∀ (X : PlayerState) (learn : Option LearnRecord),
          { X.learnPlaced learn .cancelled with active := (s.player q).selected, learn := none } =
          ({ X with active := (s.player q).selected, learn := none } : PlayerState).learnPlaced learn .cancelled := by
        intro X learn
        cases learn with
        | none => rfl
        | some r =>
          unfold PlayerState.learnPlaced PlayerState.placed
          dsimp only
          split <;> rfl
      rw [if_pos rfl, applySetup_player, if_pos rfl, hs, hl]
      have hr : learnEndedRecords (leaving q cause after s) q 6 = [] := by simp [learnEndedRecords, hl]
      have ha : recordOf (leaving q cause after s) .setupApplied 0 0 0 (s.player q).selected.val =
          recordOf s .setupApplied 0 0 0 (s.player q).selected.val := by simp [recordOf, hc]
      rw [hr, ha, leaving_player, if_pos rfl, f, e]
      simp only [PlayerState.learnPlaced_queuedAll, ← PlayerState.queuedAll_append]
      unfold leaveRecords appliedRecords leavingRecords PlayerState.left
      simp only [hw, if_true]
      rfl
    | false =>
      rw [if_neg (by simp), leaving_player, if_pos rfl]
      unfold leaveRecords appliedRecords leavingRecords PlayerState.left
      simp only [hw, Bool.false_eq_true, if_false, List.append_nil]
      rfl
  · rw [if_neg hq]
    split
    · rw [applySetup_player, if_neg hq, leaving_player, if_neg hq]
    · rw [leaving_player, if_neg hq]

end Sys2Proof.Machine
end

