-- ==== Sys2Proof/Laws/Memory.lean ====
section
/-! SUPPORT. The laws of the wave store's memory (R142, R143; log 23): what a read gives after a write, and that
every operation keeps the canonical form. -/

namespace Sys2Proof.Machine

/-- A cell put in front of cells that lie above its address reads back. -/
theorem Memory.read_cons_same (a : Nat) (b : Byte) (m : Memory)
    (h : Memory.canonicalAbove (a + 1) m = true) : Memory.read (Memory.cons a b m) a = b := by
  have above : ∀ (m : Memory) (lo : Nat), Memory.canonicalAbove lo m = true → a < lo →
      Memory.read m a = Memory.powerOn a := by
    intro m
    induction m with
    | nil => intro _ _ _; rfl
    | cons c m ih =>
      obtain ⟨k, x⟩ := c
      intro lo hm hlo
      simp only [Memory.canonicalAbove, Bool.and_eq_true, decide_eq_true_eq] at hm
      have hk : a ≠ k := by omega
      simp only [Memory.read, if_neg hk]
      exact ih (k + 1) hm.2 (by omega)
  unfold Memory.cons
  split
  · next hb => rw [hb]; exact above m (a + 1) h (by omega)
  · simp [Memory.read]

/-- A cell in front leaves every other address as it was. -/
theorem Memory.read_cons_other (a a' : Nat) (b : Byte) (m : Memory) (h : a' ≠ a) :
    Memory.read (Memory.cons a b m) a' = Memory.read m a' := by
  unfold Memory.cons
  split
  · rfl
  · simp [Memory.read, h]

/-- The canonical form above a bound holds above a lower one. -/
theorem Memory.canonicalAbove_mono (m : Memory) {lo lo' : Nat} (h : lo' ≤ lo)
    (hm : Memory.canonicalAbove lo m = true) : Memory.canonicalAbove lo' m = true := by
  cases m with
  | nil => rfl
  | cons c m =>
    simp only [Memory.canonicalAbove, Bool.and_eq_true, decide_eq_true_eq] at hm ⊢
    exact ⟨⟨by omega, hm.1.2⟩, hm.2⟩

/-- A cell in front keeps the canonical form. -/
theorem Memory.canonicalAbove_cons (a lo : Nat) (b : Byte) (m : Memory) (h : lo ≤ a)
    (hm : Memory.canonicalAbove (a + 1) m = true) :
    Memory.canonicalAbove lo (Memory.cons a b m) = true := by
  unfold Memory.cons
  split
  · exact Memory.canonicalAbove_mono m (by omega) hm
  · next hb => simp [Memory.canonicalAbove, h, hb, hm]

/-- A write keeps the canonical form above a bound not over its address. -/
theorem Memory.canonicalAbove_write (m : Memory) (a : Nat) (b : Byte) :
    ∀ lo, lo ≤ a → Memory.canonicalAbove lo m = true →
      Memory.canonicalAbove lo (Memory.write m a b) = true := by
  induction m with
  | nil => intro lo h _; exact Memory.canonicalAbove_cons a lo b [] h rfl
  | cons c m ih =>
    obtain ⟨k, x⟩ := c
    intro lo h hm
    simp only [Memory.canonicalAbove, Bool.and_eq_true, decide_eq_true_eq] at hm
    unfold Memory.write
    split
    · next hk =>
      apply Memory.canonicalAbove_cons a lo b _ h
      simp only [Memory.canonicalAbove, Bool.and_eq_true, decide_eq_true_eq]
      exact ⟨⟨by omega, hm.1.2⟩, hm.2⟩
    · split
      · next hk =>
        subst hk
        exact Memory.canonicalAbove_cons a lo b m h hm.2
      · simp only [Memory.canonicalAbove, Bool.and_eq_true, decide_eq_true_eq]
        exact ⟨hm.1, ih (k + 1) (by omega) hm.2⟩

/-- A byte written reads back. -/
theorem Memory.read_write_same (m : Memory) (a : Nat) (b : Byte) :
    ∀ lo, Memory.canonicalAbove lo m = true → Memory.read (Memory.write m a b) a = b := by
  induction m with
  | nil => intro _ _; exact Memory.read_cons_same a b [] rfl
  | cons c m ih =>
    obtain ⟨k, x⟩ := c
    intro lo hm
    simp only [Memory.canonicalAbove, Bool.and_eq_true, decide_eq_true_eq] at hm
    unfold Memory.write
    split
    · next hk =>
      apply Memory.read_cons_same
      simp only [Memory.canonicalAbove, Bool.and_eq_true, decide_eq_true_eq]
      exact ⟨⟨by omega, hm.1.2⟩, hm.2⟩
    · split
      · next hk =>
        subst hk
        exact Memory.read_cons_same a b m hm.2
      · next hk =>
        simp only [Memory.read, if_neg hk]
        exact ih (k + 1) hm.2

/-- A write leaves every other byte as it was. -/
theorem Memory.read_write_other (m : Memory) (a a' : Nat) (b : Byte) (h : a' ≠ a) :
    Memory.read (Memory.write m a b) a' = Memory.read m a' := by
  induction m with
  | nil => exact Memory.read_cons_other a a' b [] h
  | cons c m ih =>
    obtain ⟨k, x⟩ := c
    unfold Memory.write
    split
    · exact Memory.read_cons_other a a' b _ h
    · split
      · next hk =>
        subst hk
        rw [Memory.read_cons_other a a' b m h]
        simp [Memory.read, h]
      · simp only [Memory.read, ih]

/-- A write of one byte keeps the canonical form. -/
theorem Memory.wf_write (m : Memory) (a : Nat) (b : Byte) (h : Memory.wf m = true) :
    Memory.wf (Memory.write m a b) = true :=
  Memory.canonicalAbove_write m a b 0 (Nat.zero_le _) h

/-- A write of a sixteen-bit entry keeps the canonical form. -/
theorem Memory.wf_writeHalf (m : Memory) (a : Nat) (v : Half) (h : Memory.wf m = true) :
    Memory.wf (Memory.writeHalf m a v) = true :=
  Memory.wf_write _ _ _ (Memory.wf_write _ _ _ h)

/-- A sixteen-bit entry written reads back, low byte first. -/
theorem Memory.read_writeHalf (m : Memory) (a : Nat) (v : Half) (h : Memory.wf m = true) :
    Memory.read (Memory.writeHalf m a v) a = v.extractLsb' 0 8 ∧
    Memory.read (Memory.writeHalf m a v) (a + 1) = v.extractLsb' 8 8 := by
  refine ⟨?_, Memory.read_write_same _ _ _ 0 (Memory.wf_write m a _ h)⟩
  unfold Memory.writeHalf
  rw [Memory.read_write_other _ _ _ _ (by omega)]
  exact Memory.read_write_same m a _ 0 h

/-- A write of a sixteen-bit entry leaves every byte but its two as it was. -/
theorem Memory.read_writeHalf_other (m : Memory) (a b : Nat) (v : Half) (h : b ≠ a) (h' : b ≠ a + 1) :
    Memory.read (Memory.writeHalf m a v) b = Memory.read m b := by
  unfold Memory.writeHalf
  rw [Memory.read_write_other _ _ _ _ h', Memory.read_write_other _ _ _ _ h]

/-- The wave store after reset has the canonical form. -/
theorem State.reset_waves_wf : Memory.wf State.reset.waves = true := rfl

end Sys2Proof.Machine
end

