-- ==== Sys2Proof/Tests/Slice0.lean ====
section
/-! SUPPORT. Tests of single commands on small states, with results from the spec's worked sequences and
tables; the smoke test of WellFormed; and a witness for each statement that has hypotheses. -/

namespace Sys2Proof.Tests

open Sys2Proof Sys2Proof.Machine
set_option Elab.async false

/-! ### Small states -/

/-- The state after one command. -/
def after (c : Instr) (s : State) : State :=
  match exec c s with
  | .next t => t
  | .fault f => nomatch f
  | .refused _ => s

/-- Power-on with one player's record changed. -/
def withPlayer (p : Player) (f : PlayerState → PlayerState) : State := State.reset.modPlayer p f

/-- A link that is up, its receiver's records present. -/
def upLink (ps : PlayerState) : PlayerState := { ps with link := .up, silence := some 0, seqRef := some 1 }

/-- A frame with the given keys K0 to K6, breath and bite, on setup S0. -/
def senseBody (seq : BitVec 4) (keys : BitVec 7) (breath : BitVec 12) (bite : BitVec 7) : FrameBody :=
  { seq := seq, c1 := keys, c2 := 0, c3 := 0, c4 := 0, c5 := (breath.extractLsb' 6 6).setWidth 7,
    c6 := (breath.extractLsb' 0 6).setWidth 7, c7 := bite, c8 := 0 }

/-- A frame whose data characters 1 and 2 carry a count or an index and an offset. -/
def requestBody (seq : BitVec 4) (c1 c2 : BitVec 7) : FrameBody :=
  { seq := seq, c1 := c1, c2 := c2, c3 := 0, c4 := 0, c5 := 0, c6 := 0, c7 := 0, c8 := 0 }

/-- Player P0 UP with two frames of breath behind it. -/
def pendingState : State := withPlayer 0 fun ps => { upLink ps with breath := .pending 2 }

/-- A note on layer 0 and voice V5. -/
def someNote : Note :=
  { tag := 2, number := 67, flag := .plain, setup := 0, binding := [{ layer := 0, item := .voice 5 }] }

/-- A voice of P0's note. -/
def someVoice (st : VoiceState) : Voice :=
  { resetVoice with
    state := st, use := some { owner := 0, bus := 0, tag := 2, layer := 0 }, glideCurrent := 6700,
    glideTarget := 6700, amplitude := 150 }

/-- P0 BREATHING with a note that V5 sounds. -/
def playingState : State :=
  { withPlayer 0 (fun ps => { upLink ps with breath := .breathing, note := some someNote, held := 1 }) with
    voices := (Vector.replicate _ resetVoice).set 5 (someVoice .sounding)
    freeQueue := fullFreeQueue.filter (· ≠ 5) }

/-- A transaction of the given operation stands at an address. -/
def standing (op : DeskOp) (a : Half) : State := { State.reset with txn := some (opened op a) }

/-- P1 holds a pending learn on the last entry of C7. -/
def learnRecord : LearnRecord := { slot := 7, entry := 63, offset := 48, deadline := 96000 }
def learningState : State :=
  (withPlayer 1 fun ps => { upLink ps with learn := some learnRecord }).modEntry 7 63 fun e =>
    { e with reservation := some 1 }

/-- A valid record for filling queues. -/
def someRecord : EventRecord :=
  { kind := .noteOn, tag := 18, note := 72, flags := 0, value := 3, time := 500000 }

/-! ### WellFormed smoke: each check refuses an ill-formed command -/

theorem test_wellformed_refuses_rowed_writes :
    ([0x08, 0x09, 0x0A, 0x0B, 0x19, 0x100, 0x142, 0x186, 0x1C8, 0x109, 0x1000, 0x1FFF].all fun a =>
      !(Instr.deskWrite a 0x20).wellFormed) = true := by decide
theorem test_wellformed_keeps_rowless_writes :
    ([0x07, 0x0C, 0x40, 0x101, 0x105, 0x400, 0xC21, 0x2000, 0xFFFF].all fun a =>
      (Instr.deskWrite a 0x20).wellFormed) = true := by decide
theorem test_wellformed_unknown_request_is_rowless : (Instr.deskWrite 0x08 0x6F).wellFormed = true := by decide
theorem test_wellformed_refuses_chart_eight : (Instr.restoreChart 8).wellFormed = false := by decide
theorem test_wellformed_refuses_capture_of_player_four : (Instr.zeroCapture 4).wellFormed = false := by decide
theorem test_wellformed_refuses_reset_of_player_four : (Instr.linkReset 4).wellFormed = false := by decide
/-- The table gives no row any bits. -/
theorem test_no_word_spells_a_command : decodeTableWord 32 0x12345678 = none := by decide

/-! ### Breath, fingering and pitch: the worked sequences of spec/01, 02 and 07 -/

theorem test_effective_release :
    ([(200, 120, 120), (200, 200, 199), (200, 900, 199), (1, 0, 0), (1, 57, 0), (4095, 4094, 4094)].all
      fun x => effectiveRelease { defaultSetup with onset := x.1, release := x.2.1 } = x.2.2) = true := by decide
theorem test_curve_and_smoothing :
    curveLevel (linearCurve.set 7 400 |>.set 8 520) 1900 = 450 ∧ smooth 4 300 450 = 337 ∧
    smooth 4 337 450 = 365 := by decide
theorem test_sense_fields :
    (senseFields { senseBody 3 0x07 2080 0 with c2 := 0x04, c4 := 0x48 }).keys = 0x000207 ∧
    (senseFields { senseBody 3 0x07 2080 0 with c2 := 0x04, c4 := 0x48 }).contact = 1 ∧
    (senseFields { senseBody 3 0x07 2080 0 with c2 := 0x04, c4 := 0x48 }).trill = true ∧
    (senseFields (senseBody 3 0x07 2080 0)).breath = 2080 := by decide
theorem test_fold_and_clamp :
    ([(24, 108, 170, 98), (60, 65, 170, 65), (72, 60, 50, 62), (72, 60, 75, 63), (60, 71, 59, 71),
      (60, 71, 72, 60), (64, 64, 64, 64)].all fun x =>
        match rangeFit { defaultSetup with rangeLow := x.1, rangeHigh := x.2.1 } x.2.2.1 with
        | .matched n _ => n = x.2.2.2
        | .unmatched => false) = true := by decide
theorem test_bite_bend :
    biteBend 100 100 70 = -30 ∧ biteBend 100 75 33 = -50 ∧ biteBend 90 200 0 = -200 ∧
    biteBend 90 200 89 = -2 ∧ biteBend 90 200 90 = 0 ∧ biteBend 0 150 40 = 0 := by decide
theorem test_increments :
    incrementOf 6900 = 39370528 ∧ incrementOf 6862 = 38516032 ∧ incrementOf 12799 = 1188459520 ∧
    incrementOf 0 = 731558 := by decide +kernel
theorem test_tuning_indicator :
    indicatorOf 0 = 0 ∧ indicatorOf (-6) = 1 ∧ indicatorOf 5 = 0 ∧ indicatorOf (-60) = 2 ∧
    indicatorOf (-200) = 0 ∧ indicatorOf 50 = 1 := by decide

/-! ### The renderer: the worked sequences of spec/08 -/

/-- V5 of the worked sequence, and the wave store with the two entries of W3 the desk loaded. -/
def workedVoice : Voice :=
  { someVoice .sounding with
    copies := { copiesOf defaultSetup 0 with waveB := 3, pan := 40, riseStep := 256 }
    morph := 84, amplitude := 15800, target := 16176, increment := 38516032, phase := 171966519 }
def workedWaves : Memory :=
  Memory.writeHalf (Memory.writeHalf [] (waveAddress 3 10) (BitVec.ofInt 16 (-12000))) (waveAddress 3 11)
    (BitVec.ofInt 16 (-11000))

theorem test_voice_in_one_period :
    waveReading workedWaves 0 workedVoice.phase = 8156 ∧ waveReading workedWaves 3 workedVoice.phase = -11750 ∧
    blended workedWaves workedVoice = 1624 ∧ voiceOutput workedWaves workedVoice = 101855 ∧
    leftPart workedWaves workedVoice = 70025 ∧ rightPart workedWaves workedVoice = 31829 := by decide +kernel
theorem test_voice_after_one_period :
    workedVoice.rendered.amplitude = 16056 ∧ workedVoice.rendered.phase = 210482551 := by decide +kernel
theorem test_release_and_fade_steps :
    (Voice.rendered { someVoice .releasing with amplitude := 150 }).amplitude = 86 ∧
    (Voice.rendered { someVoice .releasing with amplitude := 22 }).endReported = true ∧
    (Voice.rendered { someVoice .fading with amplitude := 2500 }).amplitude = 1476 ∧
    (Voice.rendered { someVoice .fading with amplitude := 452 }).endReported = true := by decide
theorem test_saturation :
    scaled 300 7900000 = 9257812 ∧ saturate 9257812 = 8388607 ∧ scaled 300 (-6600000) = -7734375 ∧
    scaled 1023 2100000 = 8391796 ∧ scaled 100 (-5) = -2 := by decide
theorem test_sample_period_counts :
    (after .samplePeriod playingState).sampleCount = 1 ∧
    ((after .samplePeriod playingState).player 0).silence = some 1 ∧
    ((after .samplePeriod playingState).player 1).silence = none := by decide +kernel
theorem test_power_on_keeps_the_queue :
    (after .powerOn { playingState with pending := [.samplePeriod] }).pending = [.samplePeriod] ∧
    ((after .powerOn playingState).player 0).note = none := by decide +kernel

/-! ### Frames and links: the worked sequences of spec/09 -/

theorem test_hello_brings_the_link_up :
    ((after (.hello 2 (requestBody 0 14 0)) State.reset).player 2).link = .up ∧
    (((after (.hello 2 (requestBody 0 14 0)) State.reset).player 2).events.map EventRecord.bytes) =
      [[12, 0, 14, 0, 1, 0, 0, 0, 0, 0]] := by decide +kernel
/-- R156 on a link that is up; R157, R21 and R58 on one that was LOST, whose frame selects another setup. -/
theorem test_frame_of_an_up_and_of_a_lost_link :
    ((after (.senseFrame 0 (senseBody 3 0 0 0)) (withPlayer 0 upLink)).player 0).statusA = 0x08 ∧
    ((after (.senseFrame 0 (senseBody 2 0 0 0)) (withPlayer 0 upLink)).player 0).statusA = 0 ∧
    let t := after (.senseFrame 1 { senseBody 9 0 0 0 with c8 := 3 }) (learningState.modPlayer 1 fun ps =>
      { ps with link := .lost, keyCount := 14 })
    (t.player 1).events.map EventRecord.bytes = [[12, 0, 14, 0, 2, 0, 0, 0, 0, 0], [11, 0, 0, 0, 3, 0, 0, 0, 0, 0],
      [10, 0, 7, 6, 63, 0, 0, 0, 0, 0]] ∧
    (t.player 1).replies = [.learnResult 7 .cancelled 63] ∧ (t.entry 7 63).reservation = none := by decide +kernel
/-- K0 to K3 match entry 9 of the reference image, +4 over the base note of 62: an onset, an onset that finds no voice,
and a press on a note that moves there. -/
theorem test_breath_frames_sound_deny_and_latch :
    let t := after (.senseFrame 0 (senseBody 2 0x0F 300 0)) pendingState
    let d := after (.senseFrame 0 (senseBody 2 0x0F 300 0)) (pendingState.withFree [])
    let l := after (.senseFrame 0 { senseBody 2 0x0F 300 0 with c4 := 0x20 })
      (playingState.modPlayer 0 fun ps => { ps with candidate := 0x0F, settleCount := 15 })
    ((t.player 0).note.map Note.number = some 66 ∧ (t.voice 0).state = .sounding ∧
      (t.player 0).events.map EventRecord.bytes = [[1, 1, 66, 0, 1, 0, 0, 0, 0, 0]]) ∧
    ((d.player 0).events.map EventRecord.bytes =
      [[1, 1, 66, 0, 0, 0, 0, 0, 0, 0], [4, 1, 66, 0, 0, 0, 0, 0, 0, 0]] ∧ (d.player 0).denied = true) ∧
    ((l.player 0).events.map EventRecord.bytes = [[2, 2, 66, 0, 0, 0, 0, 0, 0, 0], [6, 2, 66, 0, 1, 0, 0, 0, 0, 0],
      [1, 1, 66, 0, 1, 0, 0, 0, 0, 0]] ∧ (l.voice 5).state = .latched) := by decide +kernel
theorem test_silence_timeout_records :
    let t := after (.silenceTimeout 0) (playingState.modPlayer 0 fun ps => { ps with silence := some 2400 })
    (t.player 0).link = .lost ∧ (t.player 0).statusA = 0x20 ∧ (t.voice 5).state = .releasing ∧
    (t.player 0).events.map EventRecord.bytes =
      [[13, 0, 0, 0, 1, 0, 0, 0, 0, 0], [3, 2, 67, 0, 3, 0, 0, 0, 0, 0]] := by decide +kernel
theorem test_characters_that_make_no_frame :
    ((after (.character 3 0x05 ⟨true, false⟩) State.reset).player 3).statusA = 0x04 ∧
    ((after (.character 3 0x85 ⟨true, false⟩) State.reset).player 3).assembly = [0x85] ∧
    ((after (.character 3 0x05 ⟨false, false⟩) State.reset).player 3).statusA = 0x01 := by decide +kernel
/-- R151: a character in reception at the reset is discarded with its failed stop bit; the next is taken. -/
theorem test_character_in_reception_at_a_reset_is_discarded :
    let t := after (.character 3 0x85 ⟨false, true⟩) (after (.linkReset 3) State.reset)
    (t.player 3).statusA = 0 ∧ (t.player 3).assembly = [] ∧
    ((after (.character 3 0x85 ⟨true, false⟩) t).player 3).assembly = [0x85] := by decide +kernel
theorem test_tenth_character_completes_a_frame :
    ((after (.character 3 0x03 ⟨true, false⟩)
      (withPlayer 3 fun ps => { ps with assembly := [0x83, 0, 0, 0, 0, 0, 0, 0, 0] })).player 3).received =
      some { kind := .sense, body := senseBody 3 0 0 0 } ∧
    ((after (.character 3 0x04 ⟨true, false⟩)
      (withPlayer 3 fun ps => { ps with assembly := [0x83, 0, 0, 0, 0, 0, 0, 0, 0] })).player 3).statusA =
      0x02 := by decide +kernel
theorem test_learn_request_reserves_the_entry :
    ((after (.learnReq 1 (requestBody 2 15 36)) (withPlayer 1 upLink)).entry 0 15).reservation = some 1 ∧
    (((after (.learnReq 1 (requestBody 2 15 36)) (withPlayer 1 upLink)).player 1).learn.map
      LearnRecord.offset) = some 12 := by decide +kernel
theorem test_learn_timeout_frees_the_entry :
    let t := after (.learnTimeout 1) { learningState with sampleCount := 96000 }
    (t.player 1).learn = none ∧ (t.entry 7 63).reservation = none ∧
    (t.player 1).replies = [.learnResult 7 .timeout 63] := by decide +kernel
/-- WARN TAKEN of note 67 on layer 0 and voice 33, echoing sequence 5. -/
theorem test_reply_at_the_head_is_sent :
    ((after (.replySendStart 0) (withPlayer 0 fun ps =>
      { ps with slot := .opened 5, replies := [.taken 67 0 33, .learnResult 0 .ok 15] })).player 0).slot =
      .sending [0xA5, 67, 0, 2, 33, 11] := by decide +kernel
theorem test_status_reply_of_an_idle_player :
    ((after (.replySendStart 0) (withPlayer 0 fun ps => { ps with slot := .opened 5 })).player 0).slot =
      .sending [0x85, 127, 0, 4, 0, 8] := by decide +kernel
theorem test_reply_slot_ends :
    ((after (.replySent 0) (withPlayer 0 fun ps => { ps with slot := .sending [1] })).player 0).slot = .idle ∧
    ((after (.replySlotClosed 0) (withPlayer 0 fun ps => { ps with slot := .opened 1 })).player 0).slot =
      .idle := by decide +kernel
theorem test_collision_sets_its_flag :
    ((after (.collision 0) (withPlayer 0 fun ps => { ps with slot := .sending [1] })).player 0).statusA =
      0x10 := by decide +kernel

/-! ### The voice pool -/

theorem test_release_end_frees_the_voice :
    let s := { playingState with
      voices := playingState.voices.set 5 { someVoice .releasing with endReported := true } }
    ((after (.releaseEnd 5) s).voice 5).state = .free ∧ (after (.releaseEnd 5) s).freeQueue.getLast? = some 5 ∧
    ((after (.releaseEnd 5) s).player 0).held = 0 := by decide +kernel
theorem test_fade_end_frees_the_voice :
    let s := { playingState with
      voices := playingState.voices.set 5 { someVoice .fading with endReported := true } }
    ((after (.fadeEnd 5) s).voice 5).state = .free ∧ ((after (.fadeEnd 5) s).player 0).held = 0 := by
  decide +kernel
theorem test_panic_mutes_and_fades :
    let t := after (.panic 0) playingState
    (t.voice 5).state = .fading ∧ (t.player 0).breath = .muted ∧ (t.player 1).breath = .quiet ∧
    (t.player 0).events.map EventRecord.bytes = [[3, 2, 67, 0, 4, 0, 0, 0, 0, 0]] := by decide +kernel

/-! ### The desk port: the tables of spec/04, 10 and 11 -/

theorem test_event_record_bytes :
    someRecord.bytes = [0x01, 0x12, 0x48, 0x00, 0x03, 0x00, 0x20, 0xA1, 0x07, 0x00] := by decide
theorem test_reference_entry_bytes :
    ((List.range 8).map fun b => (State.reset.entry 0 10).byte b) =
      [0x07, 0x00, 0x00, 0x7F, 0x00, 0x00, 0x05, 0x01] := by decide +kernel
theorem test_desk_writes_saturate :
    ([(0x0B, 200, 127), (0x0C, 0xE0, 0xE8), (0x0C, 0x1D, 24), (0x09, 40, 15), (0x07, 0, 1), (0x17, 0, 1),
      (0x17, 17, 16), (0x1D, 255, 200), (0x42, 0x9C, 0xCE), (0x46, 129, 128), (0x00, 11, 3), (0x16, 15, 7),
      (0x43, 0x23, 3), (0x0A, 6, 0), (0x40, 0xFF, 1)].all fun x =>
        ((defaultSetup.writeByte x.1 (BitVec.ofNat 8 x.2.1)).byte x.1).toNat = x.2.2) = true := by decide
theorem test_desk_write_holds_then_commits :
    (after (.deskWrite 0x0D 0x03) { State.reset with heldLow := some (0x0C, 0xE8) }).masterGain = 1000 ∧
    (after (.deskWrite 0x0C 0xE8) State.reset).masterGain = 256 ∧
    (after (.deskWrite 0x0C 0xE8) State.reset).heldLow = some (0x0C, 0xE8) := by decide +kernel
theorem test_threshold_worked_sequence :
    let s := withPlayer 1 fun ps =>
      { ps with threshold := 3, maskA := 0x40, maskB := 0x02, events := List.replicate 7 someRecord }
    (settleLine s s).irqHigh = true ∧
    (settleLine s (report 1 .noteOff 0 0 0 1 s)).irqHigh = false := by decide +kernel
/-- R169: the count is taken, and the head record moved, as the address ends. -/
theorem test_window_read_in_a_transaction :
    let s := withPlayer 1 fun ps => { ps with events := [someRecord] }
    let t := after (.transactionStart 0x6B (windowAddress 1)) s
    t.miso = [0, 0, 0] ∧ (t.player 1).window = some someRecord ∧ (t.player 1).events = [] ∧
    (after (.eventWindowRead 1) t).miso = [0, 0, 0, 1] ∧
    (after (.eventWindowRead 1) (after (.eventWindowRead 1) t)).miso = [0, 0, 0, 1, 0x01] := by decide +kernel
theorem test_window_read_of_an_empty_queue :
    (after (.eventWindowRead 1) State.reset).miso = List.replicate 14 0 := by decide +kernel
theorem test_status_read_clears_sticky_flags :
    let s := withPlayer 1 fun ps => { ps with statusA := 0x60 }
    (after (.statusRead (.statusA 1)) s).miso = [0, 0, 0, 0x60] ∧
    ((after (.statusRead (.statusA 1)) s).player 1).statusA = 0 ∧
    ((after (.statusRead (.statusA 1)) (s.modPlayer 1 fun ps => { ps with link := .lost })).player 1).statusA =
      0x20 := by decide +kernel
/-- R169: status B is taken as the byte of status A ends, and its DENIED is clear though the transaction ends. -/
theorem test_status_byte_is_taken_ahead :
    let s := withPlayer 1 fun ps => { ps with statusA := 0x60, denied := true }
    let t := after (.transactionStart 0x6B (areaAddress 1 0x1C)) s
    (t.player 1).statusA = 0 ∧ (t.player 1).denied = true ∧
    (after (.statusRead (.statusA 1)) t).miso = [0, 0, 0, 0x60] ∧
    ((after .transactionEnd (after (.statusRead (.statusA 1)) t)).player 1).denied = false := by decide +kernel
theorem test_breath_level_is_captured :
    let s := withPlayer 0 fun ps => { ps with level := 0x2A5 }
    let t := after (.transactionStart 0x6B (areaAddress 0 0x16)) s
    t.txn.map Transaction.captured = some (some 0x02) ∧
    (after (.breathLevelRead 0 .low) t).miso = [0, 0, 0, 0xA5] := by decide +kernel
theorem test_captured_high_byte_is_returned :
    let s := { withPlayer 0 (fun ps => { ps with level := 0x0FF }) with
      txn := some { opened .read 0x116 with captured := some 0x02, out := 0xA5 } }
    (after (.breathLevelRead 0 .high) (after (.breathLevelRead 0 .low) s)).miso = [0xA5, 0x02] := by decide +kernel
theorem test_entry_bytes_are_held_until_the_flags_byte :
    let s := standing .write 0x1000
    let t := after (.entryHoldingBufferWrite 0 0 0 0x55) s
    t.entry 0 0 = s.entry 0 0 ∧ (t.txn.map Transaction.addr) = some 0x1001 := by decide +kernel
theorem test_flags_byte_writes_the_entry :
    let t := after (.chartEntryFlagsWrite 7 63 1) learningState
    (t.entry 7 63).valid = true ∧ (t.entry 7 63).reservation = none ∧ (t.player 1).learn = none ∧
    (t.player 1).replies = [.learnResult 7 .preempted 63] := by decide +kernel
theorem test_restore_chart :
    (after (.restoreChart 2) State.reset).entry 2 10 = State.reset.entry 0 10 ∧
    (after (.restoreChart 8) State.reset).charts = State.reset.charts := by decide +kernel
theorem test_requests :
    ((after (.zeroCapture 1) State.reset).player 1).capturePending = true ∧
    ((after (.deskWrite 0x08 0x51) (withPlayer 1 upLink)).player 1).link = .down ∧
    ((after (.linkReset 1) (withPlayer 1 upLink)).player 1).link = .down := by decide +kernel
theorem test_soft_reset_keeps_the_tables :
    (after (.softReset 9) { playingState with tuning := 7 }).tuning = 7 ∧
    ((after (.softReset 9) playingState).voice 5).state = .free := by decide +kernel
theorem test_link_enable_and_disable :
    ((after (.linkDisable 0 0x7F) playingState).player 0).link = .down ∧
    ((after (.linkDisable 0 0x7F) playingState).player 0).enabled = false ∧
    ((after (.linkEnable 0 0) (withPlayer 0 fun ps => { ps with enabled := false })).player 0).enabled =
      true := by decide +kernel
theorem test_small_writes :
    (after (.masterTuningWrite 0x9B) State.reset).tuning = -100 ∧
    ((after (.reserveWrite 0 40) State.reset).player 0).reserve = 16 ∧
    ((after (.queueThresholdWrite 0 16) State.reset).player 0).threshold = 15 ∧
    ((after (.maskWrite (.maskB 0) 0xFF) State.reset).player 0).maskB = 0x07 := by decide +kernel
theorem test_interrupt_mode_and_polarity :
    (after (.interruptModeWrite 3) State.reset).intMode = .edge ∧
    (after (.interruptPolarityWrite 1) State.reset).irqHigh = false ∧
    (after .interruptPulseEnd { State.reset with intMode := .edge, pulse := true }).irqHigh = true := by
  decide +kernel
theorem test_transaction_bounds :
    ((after (.transactionStart 0x6B 0x0100) State.reset).txn.map Transaction.op) = some .read ∧
    ((after (.transactionStart 0x6C 0x0100) State.reset).txn.map Transaction.op) = some .void ∧
    (after .transactionEnd (standing .read 0)).txn = none := by decide +kernel

/-! ### Witnesses: for each statement that has hypotheses, states and operands that meet them, for each clause -/

theorem witness_StepRunsTheFrontCommand :
    ({ State.reset with pending := [Instr.samplePeriod] } : State).pending = .samplePeriod :: [] ∧
    State.reset.pending = [] := ⟨rfl, rfl⟩

theorem witness_InterruptLineFollowsTheFlags :
    (∃ t, exec .samplePeriod State.reset = .next t) ∧ (∃ t, exec (.maskWrite .global 3)
      { State.reset with intMode := .edge, clipMain := true } = .next t ∧ t.intMode = .edge) :=
  ⟨⟨_, rfl⟩, ⟨_, rfl, rfl⟩⟩

/-- A desk byte stands in its own transaction, and with none in progress; this covers the hypothesis of every
statement about a desk command. -/
theorem witness_Stands (op : DeskOp) (a : Half) : Stands (standing op a) op a ∧ Stands State.reset op a :=
  ⟨.inr ⟨_, rfl, rfl, rfl⟩, .inl rfl⟩

theorem witness_SoftResetClears :
    Stands { State.reset with intMode := .level } .write 0x08 ∧
    Stands { State.reset with intMode := .edge } .write 0x08 := ⟨.inl rfl, .inl rfl⟩

/-- A latch entry of one voice. -/
def someEntry (v : VoiceId) : LatchEntry :=
  { tag := 1, number := 60, flag := .plain, glide := 6000, bend := 0, voices := [v] }

/-- P0's note sounds V5 and awaits V6; V7 is LATCHED in its stack. -/
def busyState : State :=
  { withPlayer 0 (fun ps =>
      { upLink ps with
        breath := .breathing, held := 3, latch := [someEntry 7]
        note := some { someNote with
          binding := [{ layer := 0, item := .voice 5 }, { layer := 1, item := .claim 6 }] } }) with
    voices := (((Vector.replicate _ resetVoice).set 5 (someVoice .sounding)).set 6
      { someVoice .fading with claim := some { player := 0, tag := 2, layer := 1 } }).set 7 (someVoice .latched)
    freeQueue := fullFreeQueue.filter fun v => v ≠ 5 ∧ v ≠ 6 ∧ v ≠ 7 }

theorem busy_note (p : Player) (n : Note) (h : (busyState.player p).note = some n) :
    p = 0 ∧ n = { someNote with binding := [{ layer := 0, item := .voice 5 }, { layer := 1, item := .claim 6 }] } := by
  have k : ∀ p, (busyState.player p).note = if p = 0 then some { someNote with
    binding := [{ layer := 0, item := .voice 5 }, { layer := 1, item := .claim 6 }] } else none := by decide +kernel
  rw [k p] at h
  split at h
  · next hp => cases h; exact ⟨hp, rfl⟩
  · exact nomatch h

theorem busy_claim (v : VoiceId) (c : Claim) (h : (busyState.voice v).claim = some c) :
    v = 6 ∧ c = { player := 0, tag := 2, layer := 1 } := by
  have k : ∀ v, (busyState.voice v).claim = if v = 6 then some { player := 0, tag := 2, layer := 1 } else none := by
    decide +kernel
  rw [k v] at h
  split at h
  · next hv => cases h; exact ⟨hv, rfl⟩
  · exact nomatch h

theorem witness_StepKeepsPoolSound :
    PoolSound busyState ∧ ∃ t, step { busyState with pending := [.panic 0] } = .next t :=
  ⟨{ nodup := by decide +kernel
     queue := by decide +kernel
     owner := by decide +kernel
     held := by decide +kernel
     claims := by
       intro v c hc
       obtain ⟨rfl, rfl⟩ := busy_claim v c hc
       decide +kernel
     layers := by
       intro p n hn
       obtain ⟨rfl, rfl⟩ := busy_note p n hn
       decide
     bindings := by decide +kernel
     voiceItems := by
       intro p n l v hn hb
       obtain ⟨rfl, rfl⟩ := busy_note p n hn
       simp only [List.mem_cons, Binding.mk.injEq, BindItem.voice.injEq, reduceCtorEq, and_false, List.not_mem_nil,
         or_false] at hb
       obtain ⟨rfl, rfl⟩ := hb
       decide +kernel
     claimItems := by
       intro p n l v hn hb
       obtain ⟨rfl, rfl⟩ := busy_note p n hn
       simp only [List.mem_cons, Binding.mk.injEq, BindItem.claim.injEq, reduceCtorEq, and_false, List.not_mem_nil,
         or_false, false_or] at hb
       obtain ⟨rfl, rfl⟩ := hb
       decide +kernel
     sounding := by
       have k : ∀ v, (busyState.voice v).state = .sounding → v = 5 := by decide +kernel
       intro v u hs hu
       cases k v hs
       cases (show (busyState.voice 5).use = some { owner := 0, bus := 0, tag := 2, layer := 0 } by
         decide +kernel).symm.trans hu
       exact ⟨_, rfl, rfl, by decide⟩
     claimed := by
       intro v c hc
       obtain ⟨rfl, rfl⟩ := busy_claim v c hc
       exact ⟨_, rfl, rfl, by decide⟩
     latched := by decide +kernel
     entriesOnce := by decide +kernel }, ⟨_, rfl⟩⟩

/-- A player with full queues and a full stack, at the bounds. -/
def fullState : State :=
  withPlayer 2 fun ps =>
    { ps with
      events := List.replicate 32 someRecord, replies := List.replicate 8 (.latchDropped 60)
      latch := List.replicate 4 (someEntry 1) }

theorem witness_StepKeepsQueuesBounded :
    QueuesBounded fullState ∧ ∃ t, step { fullState with pending := [.panic 0] } = .next t :=
  ⟨⟨by decide +kernel, by decide +kernel, by decide +kernel, by decide +kernel, by decide +kernel⟩, ⟨_, rfl⟩⟩

theorem witness_StepKeepsLearnsReserved :
    LearnsReserved learningState ∧ ∃ t, step { learningState with pending := [.restoreChart 7] } = .next t := by
  refine ⟨⟨?_, ?_⟩, ⟨_, rfl⟩⟩
  · have h0 : ∀ p, p ≠ 1 → (learningState.player p).learn = none := by decide +kernel
    have h1 : (learningState.player 1).learn = some learnRecord := by decide +kernel
    intro p r hr
    by_cases hp : p = 1
    · subst hp
      rw [h1] at hr
      cases hr
      decide +kernel
    · rw [h0 p hp] at hr
      exact nomatch hr
  · have h : ∀ n e p, (learningState.entry n e).reservation = some p → p = 1 ∧ n = 7 ∧ e = 63 := by
      decide +kernel
    intro n e p hp
    obtain ⟨rfl, rfl, rfl⟩ := h n e p hp
    exact ⟨learnRecord, by decide +kernel, rfl, rfl⟩

theorem witness_StepKeepsLinksAndPlayingAgreed :
    LinkRecordsAgree playingState ∧ PlayingOnlyUp playingState ∧
    ∃ t, step { playingState with pending := [.linkReset 0] } = .next t := by
  have up : (playingState.player 0).link = .up := by decide +kernel
  have rest : ∀ p, p ≠ 0 → (playingState.player p).breath = .quiet := by decide +kernel
  refine ⟨⟨by decide +kernel, by decide +kernel, ?_, by decide +kernel⟩, ⟨by decide +kernel, ?_, by decide +kernel⟩,
    ⟨_, rfl⟩⟩
  · have h : ∀ p, (playingState.player p).silence = if p = 0 then some 0 else none := by decide +kernel
    intro p n hn
    rw [h p] at hn
    split at hn
    · cases hn; omega
    · exact nomatch hn
  · intro p n hn
    by_cases hp : p = 0
    · subst hp; exact up
    · rw [rest p hp] at hn; exact nomatch hn

theorem default_layer_in_range (b : Bool) : (defaultLayer b).InRange :=
  ⟨by simp [defaultLayer], by simp [defaultLayer], by simp [defaultLayer], by simp [defaultLayer]⟩

theorem default_setup_in_range : defaultSetup.InRange := by
  refine ⟨by decide, by decide, by decide, ?_, ?_, ?_, by decide, by decide, by decide, by decide, by decide, by decide,
    by decide, by decide, by decide, by decide, by decide, by decide, ?_⟩
  · exact ⟨by decide, by decide⟩
  · exact ⟨by decide, by decide⟩
  · exact ⟨by decide, by decide⟩
  · have h : ∀ l : LayerId, defaultSetup.layers[l] = defaultLayer (decide (l = 0)) := by decide
    intro l
    rw [h l]
    exact default_layer_in_range _

theorem busy_sound_in_range : SoundInRange busyState where
  tables := {
    setups := by
      have h : ∀ n, busyState.setup n = defaultSetup := by decide +kernel
      intro n; rw [h n]; exact default_setup_in_range
    curves := by decide +kernel
    offsets := by decide +kernel
    learns := by
      have h : ∀ p, (busyState.player p).learn = none := by decide +kernel
      intro p r hr; rw [h p] at hr; exact nomatch hr
    tuning := by decide +kernel
    gains := by decide +kernel
    zeroOffset := by decide +kernel
    threshold := by decide +kernel }
  level := by decide +kernel
  breath := by
    have h : ∀ p, (busyState.player p).breath = if p = 0 then .breathing else .quiet := by decide +kernel
    intro p; rw [h p]; split <;> trivial
  bend := by decide +kernel
  settle := by decide +kernel
  trill := by
    have h : ∀ p, (busyState.player p).trill = .stopped := by decide +kernel
    intro p; rw [h p]; trivial
  keyCount := by decide +kernel
  masks := by decide +kernel
  note := by
    intro p n hn
    obtain ⟨rfl, rfl⟩ := busy_note p n hn
    decide
  latch := by
    have h : ∀ p, (busyState.player p).latch = if p = 0 then
        [someEntry 7] else [] := by decide +kernel
    intro p e he
    rw [h p] at he
    split at he
    · obtain rfl := List.mem_singleton.mp he
      exact ⟨by decide, by decide, by decide, by decide⟩
    · exact nomatch he
  voices := by
    intro v
    refine ⟨?_, ?_, ?_, ?_, ?_, ?_, ?_, ?_, ?_, ?_, ?_, ?_, ?_, ?_⟩ <;> (revert v; decide +kernel)
  samples := by decide +kernel

theorem witness_StepKeepsSoundInRange :
    SoundInRange busyState ∧ ∃ t, step { busyState with pending := [.samplePeriod] } = .next t :=
  ⟨busy_sound_in_range, ⟨_, rfl⟩⟩

theorem worked_waves_wf : Memory.wf workedWaves = true := by decide +kernel

theorem witness_StepKeepsWavesCanonical :
    WavesCanonical { State.reset with waves := workedWaves } ∧
    ∃ t, step { State.reset with waves := workedWaves, pending := [.deskWrite 0x2001 0] } = .next t :=
  ⟨worked_waves_wf, ⟨_, rfl⟩⟩

/-- One voice in each state, below, above and at its target; V0 stays FREE. -/
def mixedState : State :=
  { State.reset with
    voices := (((((Vector.replicate _ resetVoice).set 1 workedVoice).set 2
      { workedVoice with target := 100 }).set 3 (someVoice .releasing)).set 4 (someVoice .fading)).set 5
      (someVoice .latched) }

theorem witness_SamplePeriodRenders :
    (mixedState.voice 0).state = .free ∧ (mixedState.voice 1).state = .sounding ∧
    (mixedState.voice 1).amplitude < (mixedState.voice 1).target ∧
    (mixedState.voice 2).target < (mixedState.voice 2).amplitude ∧ (mixedState.voice 3).state = .releasing ∧
    (mixedState.voice 3).target ≤ (mixedState.voice 3).amplitude ∧ (mixedState.voice 4).state = .fading ∧
    (mixedState.voice 4).target ≤ (mixedState.voice 4).amplitude ∧ (mixedState.voice 5).state = .latched ∧
    (playingState.player 0).link = .up ∧ (playingState.player 1).link ≠ .up := by decide +kernel

theorem witness_RenderArithmeticStaysInBounds :
    let vo : Voice := { someVoice .sounding with
      morph := 255, amplitude := 65535, target := 65535, copies := { copiesOf defaultSetup 0 with pan := 128 } }
    vo.morph ≤ 255 ∧ vo.InRange ∧ vo.copies.pan ≤ 128 :=
  ⟨by decide, ⟨by decide, by decide, by decide, by decide, by decide, by decide, by decide, by decide, by decide,
    by decide, by decide, by decide, by decide, by decide⟩, by decide⟩

theorem witness_FadeEndsWithinSixtyFourPeriods :
    let vo : Voice := { someVoice .fading with amplitude := 65535 }
    vo.state = .fading ∧ vo.target = 0 ∧ vo.amplitude ≤ 65535 := by decide

/-- V5 stands with its end reported, in the given state and with the given claim. -/
def endedState (st : VoiceState) (c : Option Claim) : State :=
  { playingState with
    voices := playingState.voices.set 5 { someVoice st with endReported := true, claim := c } }

theorem witness_EndsFreeTheVoice :
    ((endedState .fading none).voice 5).state = .fading ∧ ((endedState .fading none).voice 5).endReported = true ∧
    ((endedState .fading none).voice 5).claim = none ∧
    ((endedState .releasing none).voice 5).state = .releasing ∧
    ((endedState .releasing none).voice 5).endReported = true ∧
    ((endedState .releasing none).voice 5).use = some { owner := 0, bus := 0, tag := 2, layer := 0 } := by
  decide +kernel

/-- P0's note awaits V5 on layer 0 and sounds V6 on layer 1. -/
def claimingState : State :=
  (endedState .fading (some { player := 0, tag := 2, layer := 0 })).modPlayer 0 fun ps =>
    { ps with
      note := some { someNote with
        binding := [{ layer := 0, item := .claim 5 }, { layer := 1, item := .voice 6 }] } }

theorem witness_FadeEndHandsOverClaimedVoice :
    (claimingState.voice 5).state = .fading ∧ (claimingState.voice 5).endReported = true ∧
    (claimingState.voice 5).claim = some { player := 0, tag := 2, layer := 0 } ∧
    (claimingState.player 0).note = some { someNote with
      binding := [{ layer := 0, item := .claim 5 }, { layer := 1, item := .voice 6 }] } := by decide +kernel

theorem witness_UnraisedEventsChangeNothing :
    ¬((State.reset.voice 0).state = .fading ∧ (State.reset.voice 0).endReported = true) ∧
    ¬((State.reset.voice 63).state = .releasing ∧ (State.reset.voice 63).endReported = true) ∧
    (∀ r, (learningState.player 1).learn = some r → r.deadline ≠ learningState.sampleCount) ∧
    ¬((playingState.player 0).link = .up ∧ (playingState.player 0).silence = some 2400) ∧
    (∀ q, (State.reset.player 3).slot ≠ .opened q) ∧ (∀ x, (State.reset.player 3).slot ≠ .sending x) := by
  have h : (learningState.player 1).learn = some learnRecord := by decide +kernel
  have i : (State.reset.player 3).slot = .idle := by decide +kernel
  refine ⟨by decide +kernel, by decide +kernel, ?_, by decide +kernel, ?_, ?_⟩
  · intro r hr
    rw [h] at hr
    cases hr
    decide +kernel
  · intro q hq; rw [i] at hq; exact nomatch hq
  · intro q hq; rw [i] at hq; exact nomatch hq

/-- P1 holds V5 RELEASING and V6 LATCHED, P2 the SOUNDING V7 beyond its reserve. -/
def stolenFrom (releasing latched : Bool) : State :=
  { State.reset with
    freeQueue := []
    voices := (((Vector.replicate _ resetVoice).set 5
      { someVoice (if releasing then .releasing else .fading) with
        use := some { owner := 1, bus := 1, tag := 2, layer := 0 } }).set 6
      { someVoice (if latched then .latched else .fading) with
        use := some { owner := 1, bus := 1, tag := 2, layer := 0 } }).set 7
      { someVoice .sounding with use := some { owner := 2, bus := 2, tag := 2, layer := 0 } }
    players := ((Vector.replicate _ PlayerState.reset).set 1
      { PlayerState.reset with
        held := 2, latch := [{ tag := 2, number := 60, flag := .plain, glide := 6000, bend := 0, voices := [6] }]
      }).set 2 { PlayerState.reset with held := 17 } }

theorem witness_StealSearchesSpareProtectedVoices :
    tierVictim (stolenFrom true true) 1 = some 5 ∧ ownVictim (stolenFrom true true) 1 = some 5 ∧
    ownVictim (stolenFrom false true) 1 = some 6 ∧ tierOne (stolenFrom true true) = some 5 ∧
    tierOne (stolenFrom false true) = none ∧ tierTwo (stolenFrom false true) 1 = some 6 ∧
    tierVictim (stolenFrom false true) 1 = some 6 ∧ tierTwo (stolenFrom false false) 0 = none ∧
    tierThree (stolenFrom false false) 0 = some 7 ∧ tierThree (stolenFrom false false) 2 = none ∧
    tierVictim (stolenFrom false false) 0 = some 7 := by decide +kernel

/-- A grant, both denials, a steal of an own voice at the ceiling and a steal below it. -/
theorem witness_LayerRequestsGrantOrDeny :
    (playingState.player 0).held < (playingState.player 0).ceiling ∧ playingState.freeQueue.head? = some 0 ∧
    (playingState.player 0).note = some someNote ∧
    (let s := playingState.modPlayer 0 fun ps => { ps with ceiling := 1 }
     (s.player 0).ceiling ≤ (s.player 0).held ∧ ownVictim s 0 = none) ∧
    (let s := playingState.withFree []
     (s.player 0).held < (s.player 0).ceiling ∧ s.freeQueue = [] ∧ tierVictim s 0 = none) ∧
    (let s := (stolenFrom true true).modPlayer 1 fun ps => { ps with note := some someNote, ceiling := 2 }
     (s.player 1).note = some someNote ∧ (s.player 1).ceiling ≤ (s.player 1).held ∧ ownVictim s 1 = some 5) ∧
    (let s := (stolenFrom false false).modPlayer 0 fun ps => { ps with note := some someNote }
     (s.player 0).note = some someNote ∧ (s.player 0).held < (s.player 0).ceiling ∧ s.freeQueue = [] ∧
     tierVictim s 0 = some 7) := by decide +kernel

/-- A SOUNDING voice of another player, and a RELEASING one of another player and of the requester. -/
theorem witness_StealTakesSoundingVoice :
    (playingState.voice 5).use = some { owner := 0, bus := 0, tag := 2, layer := 0 } ∧
    (playingState.voice 5).state = .sounding ∧ (0 : Player) ≠ 3 ∧
    ((stolenFrom true true).voice 5).use = some { owner := 1, bus := 1, tag := 2, layer := 0 } ∧
    ((stolenFrom true true).voice 5).state = .releasing ∧ (1 : Player) ≠ 0 ∧
    0 < ((stolenFrom true true).player 1).held := by decide +kernel

/-- The owner's own steal and another player's, of an entry of one voice and of two. -/
theorem witness_StealShrinksLatchEntry :
    let s := stolenFrom false true
    let e : LatchEntry := { tag := 2, number := 60, flag := .plain, glide := 6000, bend := 0, voices := [6] }
    (s.voice 6).use = some { owner := 1, bus := 1, tag := 2, layer := 0 } ∧ (s.voice 6).state = .latched ∧
    (s.player 1).latch = [] ++ e :: [] ∧ 6 ∈ e.voices ∧ 0 < (s.player 1).held ∧ (1 : Player) ≠ 0 ∧
    [(6 : VoiceId)].erase 6 = [] ∧ [(6 : VoiceId), 7].erase 6 ≠ [] := by
  decide +kernel

theorem witness_QueuesRefuseWhenFull :
    (State.reset.player 2).events.length < 32 ∧ 32 ≤ (fullState.player 2).events.length ∧
    (State.reset.player 2).replies.length < 8 ∧ 8 ≤ (fullState.player 2).replies.length := by decide +kernel

theorem witness_FramesDiscardedWhileDown (k : FrameKind) :
    (State.reset.player 3).link = .down ∧
    frameStands State.reset 3 { kind := k, body := senseBody 15 0 0 0 } = true := by
  constructor
  · decide +kernel
  · cases k <;> decide +kernel

/-- A frame that confirms the onset of P0, of keys that match entry 9 and of keys that match none. -/
def onsetFrame (keys : BitVec 7) : FrameBody := senseBody 2 keys 200 0

/-- P0 as it begins to blow a note with a learn of entry 40 pending. -/
def learnOnset : State :=
  pendingState.modPlayer 0 fun ps =>
    { ps with learn := some { slot := 0, entry := 40, offset := 3, deadline := 96000 } }

/-- P0 BREATHING under the policy SILENT, with no note. -/
def silentState : State :=
  (playingState.modPlayer 0 fun ps => { ps with note := none }).modSetup 0 (Setup.writeByte 0x0A 1)

/-- The frame with the latch button down, and one on setup S3. -/
def latched (f : FrameBody) : FrameBody := { f with c4 := 0x20 }
def onSetupThree (f : FrameBody) : FrameBody := { f with c8 := 3 }

theorem accepted_frame {s : State} {p : Player} {f : FrameBody}
    (h : (s.player p).link = .up ∧ frameStands s p { kind := .sense, body := f } = true) : AcceptedFrame s p f :=
  ⟨h.1, h.2⟩

theorem stays_silent {s : State} {p : Player} {f : FrameBody}
    (h : ((s.player p).link = .up ∨ (s.player p).link = .lost) ∧
      frameStands s p { kind := .sense, body := f } = true ∧ (s.player p).note = none ∧
      frameBreath s p f ≠ .breathing) : StaysSilent s p f := ⟨h.1, h.2.1, h.2.2.1, h.2.2.2⟩

/-- P0's keys have settled. -/
def settled (keys : KeySet) (s : State) : State :=
  s.modPlayer 0 fun ps => { ps with candidate := keys, settleCount := 15 }

theorem learn_onset_reports : LearnReports learnOnset 0 (senseFields (onsetFrame 0x2A))
    [recordOf learnOnset .learnDone 0 0 0 40] [.learnResult 0 .ok 40] := by
  have h : ∀ e : EntryId, (learnOnset.entry 0 e).valid = true →
      ∃ k < 24, (learnOnset.entry 0 e).care.getLsbD k = true ∧
        (maskedKeys learnOnset 0 (senseFields (onsetFrame 0x2A))).getLsbD k ≠
          (learnOnset.entry 0 e).pattern.getLsbD k := by decide +kernel
  refine ⟨.ok, .inl rfl, ⟨fun h => absurd h (by decide), fun ⟨e, _, hv, hm⟩ => ?_⟩, rfl, rfl⟩
  obtain ⟨k, hk, hc, hn⟩ := h e hv
  exact absurd (hm k hk hc) hn

/-- P1 with its learn pending: its link LOST, and PENDING after one frame of breath. -/
def lostState : State :=
  learningState.modPlayer 1 fun ps => { ps with link := .lost, silence := none, seqRef := none, keyCount := 14 }
def waitingState : State :=
  learningState.modPlayer 1 fun ps => { ps with breath := .pending 1 }

/-- A frame that only stands, one of a LOST link that changes the setup at its start and cancels a learn, one that
changes it at its end, and one that takes a BREATHING player with no note to QUIET. -/
theorem witness_SenseFrameSetsTheRecords :
    ((playingState.player 0).link = .up ∧
      frameStands playingState 0 { kind := .sense, body := senseBody 2 0x7F 4095 127 } = true ∧
      (lostState.player 1).link = .lost ∧
      frameStands lostState 1 { kind := .sense, body := senseBody 2 0x7F 4095 127 } = true) ∧
    (let f := senseBody 2 0x7F 0 127
     StaysSilent pendingState 0 f ∧ pressed pendingState 0 f = false) ∧
    (let f := onSetupThree (senseBody 9 0x7F 4095 127)
     StaysSilent lostState 1 f ∧ pressed lostState 1 f = false ∧ (lostState.player 1).link = .lost ∧
     changesAtStart lostState 1 f = true ∧ (lostState.player 1).learn = some learnRecord) ∧
    (let f := onSetupThree (senseBody 2 0x7F 119 127)
     StaysSilent waitingState 1 f ∧ pressed waitingState 1 f = false ∧ changesAtEnd waitingState 1 f = true) ∧
    (let f := senseBody 2 0x7F 119 127
     StaysSilent silentState 0 f ∧ pressed silentState 0 f = false ∧ (silentState.player 0).breath = .breathing) := by
  refine ⟨?_, ⟨stays_silent ?_, ?_⟩, ⟨stays_silent ?_, ?_⟩, ⟨stays_silent ?_, ?_⟩, stays_silent ?_, ?_⟩ <;>
    decide +kernel

/-- An onset of enough voices, one that a press follows, one of no voice at all, one that matches nothing, one that
completes a learn. -/
theorem witness_OnsetSoundsEnabledLayers :
    (let f := onsetFrame 0x0F
     AcceptedFrame pendingState 0 f ∧ (pendingState.player 0).note = none ∧ Confirms pendingState 0 f ∧
     LearnReports pendingState 0 (senseFields f) [] [] ∧
     onsetResolution (afterLearn pendingState 0 (senseFields f)) 0 (senseFields f) = .matched 66 .plain ∧
     pressed pendingState 0 f = false ∧ PoolSuffices pendingState 0) ∧
    (let f := latched (onsetFrame 0x0F)
     AcceptedFrame pendingState 0 f ∧ Confirms pendingState 0 f ∧ LearnReports pendingState 0 (senseFields f) [] [] ∧
     onsetResolution (afterLearn pendingState 0 (senseFields f)) 0 (senseFields f) = .matched 66 .plain ∧
     pressed pendingState 0 f = true) ∧
    (let f := onsetFrame 0x0F
     let s := pendingState.withFree []
     AcceptedFrame s 0 f ∧ Confirms s 0 f ∧ LearnReports s 0 (senseFields f) [] [] ∧
     onsetResolution (afterLearn s 0 (senseFields f)) 0 (senseFields f) = .matched 66 .plain ∧
     enabledLayers (s.activeSetup 0) ≠ []) ∧
    (let f := onsetFrame 0x2A
     AcceptedFrame pendingState 0 f ∧ Confirms pendingState 0 f ∧ LearnReports pendingState 0 (senseFields f) [] [] ∧
     onsetResolution (afterLearn pendingState 0 (senseFields f)) 0 (senseFields f) = .unmatched) ∧
    (let f := onsetFrame 0x2A
     AcceptedFrame learnOnset 0 f ∧ (learnOnset.player 0).note = none ∧ Confirms learnOnset 0 f ∧
     onsetResolution (afterLearn learnOnset 0 (senseFields f)) 0 (senseFields f) = .matched 65 .plain ∧
     pressed learnOnset 0 f = false ∧ PoolSuffices learnOnset 0) := by
  refine ⟨⟨accepted_frame ?_, ?_, ⟨?_, ?_⟩, ⟨rfl, rfl⟩, ?_, ?_, ?_, ?_, ?_⟩,
    ⟨accepted_frame ?_, ⟨?_, ?_⟩, ⟨rfl, rfl⟩, ?_⟩, ⟨accepted_frame ?_, ⟨?_, ?_⟩, ⟨rfl, rfl⟩, ?_⟩,
    ⟨accepted_frame ?_, ⟨?_, ?_⟩, ⟨rfl, rfl⟩, ?_⟩,
    ⟨accepted_frame ?_, ?_, ⟨?_, ?_⟩, ?_, ?_, ?_, ?_, ?_⟩⟩ <;> decide +kernel

/-- A player that is BREATHING with no note: an onset under SILENT with and without a press, a fingering that matches
nothing, and a frame under HOLD. -/
theorem witness_OnsetSoundsEnabledLayers_breathing :
    (let f := onsetFrame 0x0F
     let s := settled 0x0F silentState
     AcceptedFrame s 0 f ∧ (s.player 0).note = none ∧ GoesOn s 0 f ∧ (s.activeSetup 0).policy = .silent ∧
     heldResolution s 0 (senseFields f) = .matched 66 .plain ∧ pressed s 0 f = false ∧ PoolSuffices s 0) ∧
    (let f := latched (onsetFrame 0x0F)
     let s := settled 0x0F silentState
     AcceptedFrame s 0 f ∧ GoesOn s 0 f ∧ heldResolution s 0 (senseFields f) = .matched 66 .plain ∧
     pressed s 0 f = true) ∧
    (let f := onsetFrame 0x2A
     let s := settled 0x2A silentState
     AcceptedFrame s 0 f ∧ GoesOn s 0 f ∧ heldResolution s 0 (senseFields f) = .unmatched) ∧
    (let f := onsetFrame 0x0F
     let s := playingState.modPlayer 0 fun ps => { ps with note := none }
     AcceptedFrame s 0 f ∧ (s.player 0).note = none ∧ GoesOn s 0 f ∧ (s.activeSetup 0).policy = .hold) := by
  refine ⟨⟨accepted_frame ?_, ?_, ⟨?_, ?_⟩, ?_, ?_, ?_, ?_, ?_, ?_⟩, ⟨accepted_frame ?_, ⟨?_, ?_⟩, ?_⟩,
    ⟨accepted_frame ?_, ⟨?_, ?_⟩, ?_⟩, accepted_frame ?_, ?_, ⟨?_, ?_⟩, ?_⟩ <;> decide +kernel

/-- A breath release, with and without a press, and under SILENT a fingering that matches nothing. -/
theorem witness_BreathReleaseEndsTheNote :
    let f := senseBody 2 0x0F 119 0
    let silent := settled 0x2A (playingState.modSetup 0 (Setup.writeByte 0x0A 1))
    (AcceptedFrame playingState 0 f ∧ Releases playingState 0 f ∧ pressed playingState 0 f = false) ∧
    (AcceptedFrame busyState 0 (latched f) ∧ Releases busyState 0 (latched f) ∧
      pressed busyState 0 (latched f) = true ∧ (busyState.player 0).latch ≠ []) ∧
    (playingState.player 0).note = some someNote ∧ AcceptedFrame silent 0 (onsetFrame 0x2A) ∧
    GoesOn silent 0 (onsetFrame 0x2A) ∧ (silent.activeSetup 0).policy = .silent ∧
    heldResolution silent 0 (senseFields (onsetFrame 0x2A)) = .unmatched ∧
    (silent.player 0).note = some someNote := by
  refine ⟨⟨accepted_frame ?_, ⟨?_, ?_⟩, ?_⟩, ⟨accepted_frame ?_, ⟨?_, ?_⟩, ?_⟩, ?_, accepted_frame ?_, ⟨?_, ?_⟩, ?_, ?_,
    ?_⟩ <;> decide +kernel

/-- A frame that moves the note, one that leaves it, and one whose press finds no SOUNDING voice. -/
theorem witness_ChangeDecisionMovesTheNote :
    (playingState.player 0).note = some someNote ∧
    (let s := settled 0x0F playingState
     let f := onsetFrame 0x0F
     AcceptedFrame s 0 f ∧ GoesOn s 0 f ∧ (s.player 0).boundList.Nodup ∧ pressed s 0 f = false ∧
     (s.activeSetup 0).policy ≠ .silent ∧
     movesTo (heldResolution s 0 (senseFields f)) someNote = some (66, .plain)) ∧
    (let s := settled 0x2A playingState
     let f := onsetFrame 0x2A
     AcceptedFrame s 0 f ∧ GoesOn s 0 f ∧ movesTo (heldResolution s 0 (senseFields f)) someNote = none) ∧
    (let s := endedState .fading (some { player := 0, tag := 2, layer := 0 })
     let f := latched (onsetFrame 0x0F)
     AcceptedFrame s 0 f ∧ GoesOn s 0 f ∧ (s.player 0).boundList.Nodup ∧ pressed s 0 f = true ∧
     s.noteVoices 0 = []) := by
  refine ⟨?_, ⟨accepted_frame ?_, ⟨?_, ?_⟩, ?_, ?_, ?_, ?_⟩, ⟨accepted_frame ?_, ⟨?_, ?_⟩, ?_⟩, accepted_frame ?_,
    ⟨?_, ?_⟩, ?_⟩ <;> decide +kernel

theorem witness_LatchPushFreezesTheNote :
    ((playingState.player 0).note = some someNote ∧ playingState.noteVoices 0 = [5] ∧
      (playingState.player 0).breath = .breathing ∧
      (playingState.player 0).latch.length < 4 ∧ (fullState.player 2).latch.tail.length = 3 ∧
      (fullState.player 2).latch = (fullState.player 2).latch.headD
        { tag := 0, number := 0, flag := .plain, glide := 0, bend := 0, voices := [] } ::
        (fullState.player 2).latch.tail) ∧
    (let f := latched (onsetFrame 0x0F)
     let s := settled 0x0F playingState
     AcceptedFrame s 0 f ∧ GoesOn s 0 f ∧ (s.player 0).note = some someNote ∧ (s.player 0).boundList.Nodup ∧
     pressed s 0 f = true ∧ s.noteVoices 0 ≠ [] ∧ (s.activeSetup 0).policy ≠ .silent) := by
  refine ⟨?_, accepted_frame ?_, ⟨?_, ?_⟩, ?_⟩ <;> decide +kernel

/-- A press of a QUIET player, and of a PENDING one that stays silent. -/
theorem witness_LatchPressClearsTheStack :
    ((fullState.player 2).breath ≠ .breathing ∧ (fullState.player 2).note = none) ∧
    (let s := fullState.modPlayer 2 upLink
     let f := latched (senseBody 2 0 0 0)
     StaysSilent s 2 f ∧ pressed s 2 f = true ∧ (s.player 2).latch ≠ []) ∧
    (let f := latched (senseBody 2 0 4095 0)
     StaysSilent waitingState 1 f ∧ pressed waitingState 1 f = true) := by
  refine ⟨?_, ⟨stays_silent ?_, ?_⟩, stays_silent ?_, ?_⟩ <;> decide +kernel

theorem witness_CompletionWritesTheLearnedEntry :
    (learningState.player 1).learn = some learnRecord ∧ (learnOnset.player 0).link = .up ∧
    frameStands learnOnset 0 { kind := .sense, body := onsetFrame 0x0F } = true ∧
    Confirms learnOnset 0 (onsetFrame 0x0F) ∧
    (learnOnset.player 0).learn = some { slot := 0, entry := 40, offset := 3, deadline := 96000 } := by
  refine ⟨?_, ?_, ?_, ⟨?_, ?_⟩, ?_⟩ <;> decide +kernel

theorem witness_HelloTakesTheKeyCount :
    frameStands State.reset 0 { kind := .hello, body := requestBody 0 127 0 } = true ∧
    (State.reset.player 0).link ≠ .up ∧
    frameStands playingState 0 { kind := .hello, body := requestBody 0 24 0 } = true ∧
    (playingState.player 0).link = .up := by decide +kernel

/-- Refused with a learn pending and at index 64, BUSY where P1 holds the entry, accepted at index 63, and
cancelled in LOST. -/
theorem witness_LearnRequestsAreAnswered :
    let busy := (learningState.modPlayer 0 upLink).modSetup 0 (Setup.writeByte 0 7)
    let lost := withPlayer 0 fun ps => { ps with link := .lost }
    (learningState.player 1).link = .up ∧ (learningState.player 1).learn ≠ none ∧
    frameStands learningState 1 { kind := .learnReq, body := requestBody 2 63 0 } = true ∧
    (playingState.player 0).link = .up ∧ (playingState.player 0).learn = none ∧
    frameStands playingState 0 { kind := .learnReq, body := requestBody 2 64 0 } = true ∧
    (playingState.entry (playingState.activeSetup 0).chartSlot 63).reservation = none ∧
    (busy.player 0).link = .up ∧ (busy.player 0).learn = none ∧
    (busy.entry (busy.activeSetup 0).chartSlot 63).reservation = some 1 ∧ (lost.player 0).link = .lost ∧
    frameStands lost 0 { kind := .learnReq, body := requestBody 2 127 0 } = true := by decide +kernel

theorem witness_LearnTimeoutEndsTheLearn :
    let s := { learningState with sampleCount := 96000 }
    (s.player 1).learn = some learnRecord ∧ learnRecord.deadline = s.sampleCount := by decide +kernel

theorem witness_SilenceTimeoutLosesTheLink :
    let s := playingState.modPlayer 0 fun ps => { ps with silence := some 2400 }
    (s.player 0).link = .up ∧ (s.player 0).silence = some 2400 := by decide +kernel

theorem witness_LinkEnableWrites :
    Stands State.reset .write (areaAddress 3 0) ∧ (playingState.player 0).enabled = true ∧
    (playingState.player 0).link = .up ∧ (State.reset.player 0).enabled = true ∧
    (State.reset.player 0).link ≠ .up ∧
    ((withPlayer 0 fun ps => { ps with enabled := false }).player 0).enabled = false :=
  ⟨.inl rfl, by decide +kernel⟩

theorem witness_LinkResetClearsTheReceiver :
    (3 : BitVec 4).toNat = (3 : Player).val ∧ Stands playingState .write 0x08 ∧
    (playingState.player 0).link = .up ∧ (playingState.player 3).link ≠ .up :=
  ⟨rfl, .inl rfl, by decide +kernel⟩

/-- A frame of nine characters in assembly, of each kind that the header names, and of kind 3. -/
def assembled (header : Byte) : State :=
  withPlayer 0 fun ps => { ps with assembly := header :: List.replicate 8 1 }

theorem witness_CharactersAssembleAndCheckFrames :
    ((State.reset.player 0).restarted = true ∧
      ¬((⟨true, false⟩ : Reception).early = true ∧ (State.reset.player 0).restarted = true) ∧
      ∀ h, ¬((⟨true, false⟩ : Reception).early = true ∧ ((assembled h).player 0).restarted = true)) ∧
    ((State.reset.player 0).enabled = true ∧ (State.reset.player 0).assembly = [] ∧
      (0x80 : Byte).msb = true ∧ (0x7F : Byte).msb = false) ∧
    ((withPlayer 0 fun ps => { ps with enabled := false }).player 0).enabled = false ∧
    (∀ x, (State.reset.player 0).slot ≠ .sending x) ∧
    ((withPlayer 0 fun ps => { ps with assembly := List.replicate 8 0x81 }).player 0).assembly.length < 9 ∧
    (∀ h, ((assembled h).player 0).assembly.length = 9 ∧ ((assembled h).player 0).enabled = true ∧
      ∀ x, ((assembled h).player 0).slot ≠ .sending x) ∧
    ((0x80 + 8) % 128 = (8 : Byte).toNat ∧ (0x80 + 8) % 128 ≠ (9 : Byte).toNat) ∧
    ((0x8F : Byte).toNat / 16 % 8 = 0 ∧ (0x90 : Byte).toNat / 16 % 8 = 1 ∧
      (0xA0 : Byte).toNat / 16 % 8 = 2 ∧ 3 ≤ (0xB0 : Byte).toNat / 16 % 8) := by
  have i : (State.reset.player 0).slot = .idle := by decide +kernel
  refine ⟨⟨by decide +kernel, by decide +kernel, fun h => nofun⟩, by decide +kernel, by decide +kernel, ?_,
    by decide +kernel, ?_, by decide, by decide⟩
  · intro x hx; rw [i] at hx; exact nomatch hx
  · intro h
    refine ⟨rfl, rfl, ?_⟩
    intro x hx
    have : ((assembled h).player 0).slot = .idle := rfl
    rw [this] at hx
    exact nomatch hx

theorem witness_ReplySendStartSendsTheHead :
    let s := withPlayer 0 fun ps => { ps with slot := .opened 15, replies := [.denied 127 3] }
    let u := playingState.modPlayer 0 fun ps => { ps with slot := .opened 0 }
    (s.player 0).slot = .opened 15 ∧ (s.player 0).replies.head? = some (.denied 127 3) ∧
    (u.player 0).slot = .opened 0 ∧ (u.player 0).replies = [] ∧ (u.player 0).note = some someNote := by
  decide +kernel

theorem witness_ReplySlotEnds :
    ((withPlayer 0 fun ps => { ps with slot := .sending [1] }).player 0).slot = .sending [1] ∧
    ((withPlayer 0 fun ps => { ps with slot := .opened 1 }).player 0).slot = .opened 1 := by decide +kernel

theorem witness_PanicFadesEverything :
    Stands mixedState .write 0x08 ∧ (mixedState.voice 0).state = .free ∧ (mixedState.voice 1).state ≠ .free :=
  ⟨.inl rfl, by decide +kernel⟩

theorem witness_RestoreChartWritesTheImage :
    (7 : BitVec 4).toNat = (7 : ChartSlot).val ∧ Stands learningState .write 0x08 ∧
    (learningState.player 1).learnsIn 7 = true ∧ (learningState.player 0).learnsIn 7 = false :=
  ⟨rfl, .inl rfl, by decide +kernel⟩

theorem witness_ZeroCaptureAndBadArguments :
    Stands State.reset .write 0x08 ∧ (3 : BitVec 4).toNat = (3 : Player).val ∧ 4 ≤ (4 : BitVec 4).toNat ∧
    8 ≤ (8 : BitVec 4).toNat ∧ 8 ≤ (15 : BitVec 4).toNat := ⟨.inl rfl, by decide⟩

theorem witness_ChartEntryWrites :
    Stands (standing .write (entryAddress 7 63 6)) .write (entryAddress 7 63 6) ∧
    Stands learningState .write (entryAddress 7 63 7) ∧ (learningState.player 1).learns 7 63 = true ∧
    (learningState.player 0).learns 7 63 = false := ⟨.inr ⟨_, rfl, rfl, rfl⟩, .inl rfl, by decide +kernel⟩

theorem witness_MasterTuningRetunesVoices :
    Stands playingState .write 0x0B ∧ (playingState.voice 5).state ≠ .free ∧ (playingState.voice 0).state = .free :=
  ⟨.inl rfl, by decide +kernel⟩

theorem witness_ReserveWriteIsBounded : Stands State.reset .write (areaAddress 3 0x02) := .inl rfl

/-- The read-only and empty places at the bounds of their ranges, and the unknown request codes. -/
theorem witness_PortRegisterWrites :
    Stands State.reset .write (areaAddress 3 0x3F) ∧ placeOf 0xFFFF = .unmapped ∧
    placeOf (windowAddress 3) = .window 3 ∧ placeOf (areaAddress 0 0x07) = .area 0 0x07 ∧
    placeOf (areaAddress 3 0x0A) = .area 3 0x0A ∧ placeOf (areaAddress 3 0x3F) = .area 3 0x3F ∧
    placeOf 0x0000 = .control 0x00 ∧ placeOf 0x0007 = .control 0x07 ∧ placeOf 0x0016 = .control 0x16 ∧
    placeOf 0x0018 = .control 0x18 ∧ placeOf 0x001A = .control 0x1A ∧ placeOf 0x003F = .control 0x3F ∧
    placeOf (curveAddress 0 34) = .curve 0 34 ∧ placeOf (curveAddress 7 63) = .curve 7 63 ∧
    (0x0F : Byte).toNat / 16 = 0 ∧ 6 ≤ (0x60 : Byte).toNat / 16 ∧ 6 ≤ (0xFF : Byte).toNat / 16 :=
  ⟨.inl rfl, by decide⟩

theorem witness_LowByteIsHeld :
    IsLowByte 0x000C ∧ IsLowByte 0x0014 ∧ IsLowByte (areaAddress 3 0x04) ∧ IsLowByte (setupAddress 15 0x24) ∧
    IsLowByte (curveAddress 7 32) ∧ IsLowByte 0x2000 ∧ IsLowByte 0x3FFE := by
  have gain : (0x0C : Nat) ∈ [0x0C, 0x0E, 0x10, 0x12, 0x14] ∧ (0x14 : Nat) ∈ [0x0C, 0x0E, 0x10, 0x12, 0x14] := by
    decide
  have step : (0x24 : Nat) ∈ setupHalfOffsets := by decide
  exact ⟨gain.1, gain.2, rfl, step, (by decide : 32 < 34 ∧ 32 % 2 = 0), rfl, rfl⟩

theorem witness_WaveEntryWrite :
    (0x2000 ≤ (0x2001 : Half).toNat ∧ (0x3FFF : Half).toNat < 0x4000 ∧ (0x2001 : Half).toNat % 2 = 1 ∧
      (0x3FFF : Half).toNat % 2 = 1) ∧ WavesCanonical { State.reset with waves := workedWaves } ∧
    Stands { State.reset with waves := workedWaves } .write 0x3FFF :=
  ⟨by decide, worked_waves_wf, .inl rfl⟩

theorem witness_HighByteCommitsTheField :
    (∀ k ∈ setupHalfOffsets, Stands (standing .write (setupAddress 15 (k + 1))) .write (setupAddress 15 (k + 1))) ∧
    setupHalfOffsets ≠ [] := ⟨fun k _ => (witness_Stands .write (setupAddress 15 (k + 1))).1, by decide⟩

theorem witness_SetupBytesReadBack :
    (∀ off ∈ [(0 : Fin 128), 0x17, 0x40, 0x5F, 0x60, 0x7F], off.val ∉ setupHalfOffsets ∧
      ∀ k ∈ setupHalfOffsets, off.val ≠ k + 1) ∧ Stands State.reset .write (setupAddress 15 0x7F) :=
  ⟨by decide, .inl rfl⟩

/-- The last address of each unit. -/
theorem witness_AddressesWrapWithinTheirUnit :
    ([0x3F, 0x13F, 0x1FF, 0x47F, 0xBFF, 0xC3F, 0xDFF, 0x11FF, 0x1FFF, 0x21FF, 0x3FFF].all fun a =>
      unitBase (placeOf a) ≠ none ∧ unitOffset (placeOf a) + 1 = unitSize (placeOf a)) = true ∧
    unitOffset (placeOf 0x1FFE) + 1 < unitSize (placeOf 0x1FFE) := by decide

theorem witness_TransactionsBeginAndEnd :
    State.reset.txn = none ∧ (0x6C : Byte) ≠ 0x6B ∧ (standing .void 0).txn = some (opened .void 0) ∧
    (opened .void 0).op = .void ∧ (standing .read 0x0BFF).txn = some (opened .read 0x0BFF) ∧
    (opened .read 0x0BFF).op = .read := ⟨rfl, by decide, rfl, rfl, rfl, rfl⟩

/-- A window read stands before its first, at its first and tenth record byte, and past them. -/
theorem witness_EventWindowReads :
    (∀ n : Fin 13, ∃ x, ({ State.reset with
        txn := some { opened .read (windowAddress 3) with count := n.val } } : State).txn = some x ∧
      x.op = .read ∧ x.addr = windowAddress 3 ∧ x.count = n.val) ∧ State.reset.txn = none :=
  ⟨fun _ => ⟨_, rfl, rfl, rfl, rfl⟩, rfl⟩

theorem witness_StatusAndLevelReads :
    (∀ b, ∃ x, (standing .read (statusAddress b)).txn = some x ∧ x.op = .read ∧ x.addr = statusAddress b) ∧
    (∀ p h, ∃ x, (standing .read (levelAddress p h)).txn = some x ∧ x.op = .read ∧ x.addr = levelAddress p h) ∧
    State.reset.txn = none := ⟨fun _ => ⟨_, rfl, rfl, rfl⟩, fun _ _ => ⟨_, rfl, rfl, rfl⟩, rfl⟩

theorem witness_BreathLevelFollowsTheCurve :
    (15 < 16 ∧ 255 < 256) ∧ (1 ≤ 1 ∧ 1 ≤ 16 ∧ 16 ≤ 16) ∧ smooth 1 0 1 = 1 ∧ smooth 1 1 0 = 0 ∧
    curveLevel linearCurve (256 * 15 + 255) = 1022 := by decide

theorem witness_NoteSumsFoldOrClampIntoRange :
    (∃ st : Setup, st.rangeHigh = 60 ∧ st.rangeLow = 71 ∧ 11 ≤ (max st.rangeLow st.rangeHigh : Int) -
      min st.rangeLow st.rangeHigh) ∧
    (∃ st : Setup, st.rangeHigh = 70 ∧ st.rangeLow = 60 ∧ (max st.rangeLow st.rangeHigh : Int) -
      min st.rangeLow st.rangeHigh < 11) :=
  ⟨⟨{ defaultSetup with rangeLow := 71, rangeHigh := 60 }, by decide⟩,
   ⟨{ defaultSetup with rangeLow := 60, rangeHigh := 70 }, by decide⟩⟩

theorem witness_PitchTablesAreRoundedRoots :
    semiTable[11]? = some 123715 ∧ centTable[98]? = some 69353 ∧ centTable[99]? = some 69393 := by decide

theorem witness_IncrementsRiseWithPitch : (0 ≤ 12799 ∧ 12799 ≤ 12799) := by decide

end Sys2Proof.Tests
end

/-!
The range stage of the fingering resolution (R38, R39): what the octave fold and the clamp give below, inside
and above the range, and from these the resolved note and its flag.
-/

namespace Sys2Proof.Machine

/-! ### The octave fold -/

section
variable {lo hi n : Int}

theorem foldInto_of_mem (hlo : lo ≤ n) (hhi : n ≤ hi) : foldInto lo hi n = n := by
  rw [foldInto, if_neg (Int.not_lt.mpr hlo), if_neg (Int.not_lt.mpr hhi)]

theorem foldInto_of_lt (h : n < lo) : foldInto lo hi n = n + 12 * ((lo - n + 11) / 12) :=
  if_pos h

theorem foldInto_of_gt (hle : lo ≤ hi) (h : hi < n) :
    foldInto lo hi n = n - 12 * ((n - hi + 11) / 12) := by
  rw [foldInto, if_neg (by omega), if_pos h]

/-- Of the numbers whole octaves away only one lies in the lowest octave of the range, so the fold from below is
by the fewest octaves. -/
theorem foldInto_lowest_octave (h : n < lo) : lo ≤ foldInto lo hi n ∧ foldInto lo hi n < lo + 12 := by
  rw [foldInto_of_lt h]
  omega

theorem foldInto_highest_octave (hle : lo ≤ hi) (h : hi < n) :
    hi - 12 < foldInto lo hi n ∧ foldInto lo hi n ≤ hi := by
  rw [foldInto_of_gt hle h]
  omega

/-- A span of 11 holds a whole octave, so the lowest and the highest octave both lie inside the range. -/
theorem foldInto_mem (span : 11 ≤ hi - lo) : lo ≤ foldInto lo hi n ∧ foldInto lo hi n ≤ hi := by
  by_cases below : n < lo
  · have := foldInto_lowest_octave (hi := hi) below
    omega
  by_cases above : hi < n
  · have := foldInto_highest_octave (by omega : lo ≤ hi) above
    omega
  · rw [foldInto_of_mem (Int.not_lt.mp below) (Int.not_lt.mp above)]
    omega

/-! ### The clamp -/

theorem clampInt_of_mem (hlo : lo ≤ n) (hhi : n ≤ hi) : clampInt lo hi n = n := by
  rw [clampInt, if_neg (Int.not_lt.mpr hlo), if_neg (Int.not_lt.mpr hhi)]

theorem clampInt_of_lt (h : n < lo) : clampInt lo hi n = lo :=
  if_pos h

theorem clampInt_of_gt (hle : lo ≤ hi) (h : hi < n) : clampInt lo hi n = hi := by
  rw [clampInt, if_neg (by omega), if_pos h]

theorem clampInt_mem (hle : lo ≤ hi) : lo ≤ clampInt lo hi n ∧ clampInt lo hi n ≤ hi := by
  unfold clampInt
  split_ifs <;> omega

end

/-! ### The resolved note and its flag -/

/-- The flag of a fitted sum: `moved` where the sum lies outside the range. -/
def fitFlag (moved : RangeFlag) (lo hi sum : Int) : RangeFlag :=
  if sum < lo ∨ hi < sum then moved else .plain

section
variable {moved : RangeFlag} {lo hi sum : Int}

theorem fitFlag_of_mem (hlo : lo ≤ sum) (hhi : sum ≤ hi) : fitFlag moved lo hi sum = .plain :=
  if_neg (by omega)

theorem fitFlag_of_lt (h : sum < lo) : fitFlag moved lo hi sum = moved :=
  if_pos (.inl h)

theorem fitFlag_of_gt (h : hi < sum) : fitFlag moved lo hi sum = moved :=
  if_pos (.inr h)

end

section
variable {st : Setup} {lo hi : Int} (hlo : lo = min (st.rangeLow : Int) st.rangeHigh)
  (hhi : hi = max (st.rangeLow : Int) st.rangeHigh) (sum : Int)
include hlo hhi

/-- A fit inside the range is not below 0, so the resolved number is the folded sum itself. -/
theorem rangeFit_of_wide (span : 11 ≤ hi - lo) :
    ∃ n : Nat, (n : Int) = foldInto lo hi sum ∧
      rangeFit st sum = .matched n (fitFlag .folded lo hi sum) := by
  have mem : lo ≤ foldInto lo hi sum ∧ foldInto lo hi sum ≤ hi := foldInto_mem span
  refine ⟨(foldInto lo hi sum).toNat, Int.toNat_of_nonneg (by omega), ?_⟩
  have wide : 11 ≤ max st.rangeLow st.rangeHigh - min st.rangeLow st.rangeHigh := by omega
  rw [rangeFit, if_pos wide, Nat.cast_min, Nat.cast_max, ← hlo, ← hhi, fitFlag]

theorem rangeFit_of_narrow (span : hi - lo < 11) :
    ∃ n : Nat, (n : Int) = clampInt lo hi sum ∧
      rangeFit st sum = .matched n (fitFlag .clamped lo hi sum) := by
  have mem : lo ≤ clampInt lo hi sum ∧ clampInt lo hi sum ≤ hi := clampInt_mem (by omega)
  refine ⟨(clampInt lo hi sum).toNat, Int.toNat_of_nonneg (by omega), ?_⟩
  have narrow : ¬11 ≤ max st.rangeLow st.rangeHigh - min st.rangeLow st.rangeHigh := by omega
  rw [rangeFit, if_neg narrow, Nat.cast_min, Nat.cast_max, ← hlo, ← hhi, fitFlag]

end

/-- Settles O57: a wide range folds and a narrow one clamps, each by the fit's own cases. -/
theorem noteSumsFoldOrClampIntoRange : Obligations.NoteSumsFoldOrClampIntoRange := by
  intro st sum
  obtain ⟨lo, hlo⟩ : ∃ lo : Int, lo = min (st.rangeLow : Int) st.rangeHigh := ⟨_, rfl⟩
  obtain ⟨hi, hhi⟩ : ∃ hi : Int, hi = max (st.rangeLow : Int) st.rangeHigh := ⟨_, rfl⟩
  have hle : lo ≤ hi := by omega
  simp only [← hlo, ← hhi]
  by_cases span : 11 ≤ hi - lo
  · obtain ⟨n, hn, fit⟩ := rangeFit_of_wide hlo hhi sum span
    exact ⟨n, _, fit, hn ▸ (foldInto_mem span).1, hn ▸ (foldInto_mem span).2,
      fun h h' => ⟨hn.trans (foldInto_of_mem h h'), fitFlag_of_mem h h'⟩,
      fun _ below => ⟨fitFlag_of_lt below, ⟨_, hn.trans (foldInto_of_lt below)⟩,
        hn ▸ (foldInto_lowest_octave below).2⟩,
      fun _ above => ⟨fitFlag_of_gt above, ⟨_, hn.trans (foldInto_of_gt hle above)⟩,
        hn ▸ (foldInto_highest_octave hle above).1⟩,
      fun narrow => absurd span (Int.not_le.mpr narrow),
      fun narrow => absurd span (Int.not_le.mpr narrow)⟩
  · obtain ⟨n, hn, fit⟩ := rangeFit_of_narrow hlo hhi sum (Int.not_le.mp span)
    exact ⟨n, _, fit, hn ▸ (clampInt_mem hle).1, hn ▸ (clampInt_mem hle).2,
      fun h h' => ⟨hn.trans (clampInt_of_mem h h'), fitFlag_of_mem h h'⟩,
      fun wide => absurd wide span,
      fun wide => absurd wide span,
      fun _ below => ⟨fitFlag_of_lt below, hn.trans (clampInt_of_lt below)⟩,
      fun _ above => ⟨fitFlag_of_gt above, hn.trans (clampInt_of_gt hle above)⟩⟩

end Sys2Proof.Machine

/-!
The learn operation (R54 to R56): the completion of a pending learn, and the frame of a confirmed breath onset that
completes it.
-/

namespace Sys2Proof.Machine

/-! ### Shadowing (R34, R55) -/

/-- The lookup's test of an entry is agreement on every key of its care set (R34). -/
theorem ChartEntry.hits_iff (e : ChartEntry) (keys : KeySet) : e.hits keys = true ↔ Matches e keys := by
  have agree : keys &&& e.care = e.pattern &&& e.care ↔
      ∀ k < 24, e.care.getLsbD k = true → keys.getLsbD k = e.pattern.getLsbD k := by
    constructor
    · intro h k _ hc
      simpa [hc] using congrArg (BitVec.getLsbD · k) h
    · intro h
      refine BitVec.eq_of_getLsbD_eq fun k hk => ?_
      cases hc : e.care.getLsbD k with
      | false => simp [hc]
      | true => simp [hc, h k hk hc]
  simp [ChartEntry.hits, Matches, agree]

theorem shadowed_iff (s : State) (n : ChartSlot) (e : EntryId) (keys : KeySet) :
    shadowed s.charts[n] e keys = true ↔ ∃ d, d < e ∧ Matches (s.entry n d) keys := by
  simp only [shadowed, List.any_eq_true, ChartEntry.hits_iff]
  constructor
  · rintro ⟨x, hx, hm⟩
    obtain ⟨i, hi, rfl⟩ := List.mem_take_iff_getElem.1 hx
    simp only [Vector.length_toList, lt_min_iff] at hi
    exact ⟨⟨i, hi.2⟩, hi.1, by simpa [State.entry] using hm⟩
  · rintro ⟨d, hd, hm⟩
    have hi : d.val < min e.val s.charts[n].toList.length := by
      rw [Vector.length_toList]; exact lt_min hd d.isLt
    exact ⟨_, List.mem_take_iff_getElem.2 ⟨d.val, hi, rfl⟩, by simpa [State.entry] using hm⟩

theorem learnOutcome_cases (c : Chart) (e : EntryId) (keys : KeySet) :
    learnOutcome c e keys = .ok ∨ learnOutcome c e keys = .okShadowed := by
  unfold learnOutcome
  split
  · exact .inr rfl
  · exact .inl rfl

theorem learnOutcome_eq_okShadowed_iff (s : State) (n : ChartSlot) (e : EntryId) (keys : KeySet) :
    learnOutcome s.charts[n] e keys = .okShadowed ↔ ∃ d, d < e ∧ Matches (s.entry n d) keys := by
  rw [← shadowed_iff, learnOutcome]
  cases shadowed s.charts[n] e keys <;> simp

theorem learnOutcome_code (c : Chart) (e : EntryId) (keys : KeySet) :
    BitVec.ofNat 8 (learnOutcome c e keys).code = if learnOutcome c e keys = .ok then 0 else 1 := by
  rcases learnOutcome_cases c e keys with h | h <;> rw [h] <;> rfl

/-! ### The completion of a pending learn (R55, R56) -/

/-- The LEARN_DONE of a learn whose pattern is `keys`; its flags carry the result code. -/
def learnDoneRecord (s : State) (r : LearnRecord) (keys : KeySet) : EventRecord :=
  recordOf s .learnDone 0 r.slot.val (if learnOutcome s.charts[r.slot] r.entry keys = .ok then 0 else 1) r.entry.val

/-- The LEARN_RESULT of a learn whose pattern is `keys`. -/
def learnResultReply (s : State) (r : LearnRecord) (keys : KeySet) : Reply :=
  .learnResult r.slot.val (learnOutcome s.charts[r.slot] r.entry keys) r.entry.val

theorem learnReports_of_pending {s : State} {p : Player} {r : LearnRecord} (pending : (s.player p).learn = some r)
    (x : SenseFields) :
    LearnReports s p x [learnDoneRecord s r (maskedKeys s p x)] [learnResultReply s r (maskedKeys s p x)] := by
  rw [LearnReports, pending]
  exact ⟨_, learnOutcome_cases _ _ _, learnOutcome_eq_okShadowed_iff _ _ _ _, rfl, rfl⟩

section
variable {p : Player} {r : LearnRecord} {s : State} (pending : (s.player p).learn = some r)
include pending

theorem completeLearn_eq :
    completeLearn p s =
      { s with charts := (completeLearn p s).charts, players := (completeLearn p s).players } := by
  simp only [completeLearn, pending]
  rfl

theorem completeLearn_entry (n : ChartSlot) (e : EntryId) :
    (completeLearn p s).entry n e = if n = r.slot ∧ e = r.entry then
      { valid := true, pattern := (s.player p).accepted, care := (s.activeSetup p).keyMask, offset := r.offset,
        learned := true, reservation := none }
    else s.entry n e := by
  simp [completeLearn, pending, reportLearn, State.entry_modEntry]

theorem completeLearn_player (q : Player) :
    (completeLearn p s).player q = if q = p then
      ({ s.player p with learn := none }.queued (learnDoneRecord s r (s.player p).accepted)).placed
        (learnResultReply s r (s.player p).accepted)
    else s.player q := by
  simp only [completeLearn, pending, reportLearn, placeReply_player, report_player, State.player_modPlayer,
    State.modEntry_player, learnOutcome_code]
  rcases eq_or_ne q p with rfl | h
  · simp [learnDoneRecord, learnResultReply, recordOf]
  · simp [h]

end

/-! ### The frame of an UP player up to the learn completion (R155, R156, R5 to R9, R20 to R29) -/

theorem State.modPlayer_modPlayer (s : State) (p : Player) (f g : PlayerState → PlayerState) :
    (s.modPlayer p f).modPlayer p g = s.modPlayer p (g ∘ f) := by
  simp [State.modPlayer]

theorem State.modPlayer_congr {s : State} {p : Player} {f g : PlayerState → PlayerState}
    (h : f (s.player p) = g (s.player p)) : s.modPlayer p f = s.modPlayer p g := by
  unfold State.player at h
  rw [State.modPlayer, h, State.modPlayer]

/-- The receiver takes a frame of an UP link (R155, R156). -/
theorem checkSequence_clearReceived {s : State} {p : Player} (up : (s.player p).link = .up) (seq : BitVec 4) :
    checkSequence p seq (clearReceived p s) = s.modPlayer p fun ps =>
      { ps with received := none, seqRef := some seq, statusA := statusAfterSeq ps seq } := by
  have heard : ((clearReceived p s).player p).seqRef = (s.player p).seqRef := by simp [clearReceived]
  rw [checkSequence, heard]
  cases hr : (s.player p).seqRef with
  | none =>
    exact (State.modPlayer_modPlayer ..).trans (State.modPlayer_congr (by simp [statusAfterSeq, seqGapFails, hr]))
  | some k =>
    dsimp only
    split
    · next follows =>
      exact (State.modPlayer_modPlayer ..).trans
        (State.modPlayer_congr (by simp [statusAfterSeq, seqGapFails, hr, follows]))
    · next gap =>
      rw [raiseFlag, clearReceived, State.modPlayer_modPlayer, State.modPlayer_modPlayer]
      have fails : seqGapFails (s.player p) seq = true := by simpa [seqGapFails, up, hr] using gap
      exact State.modPlayer_congr (by simp [statusAfterSeq, seqGap, fails])

/-- In PENDING the selection waits (R21). -/
theorem selectSetup_of_pending {s : State} {p : Player} {k : Nat} (h : (s.player p).breath = .pending k)
    (n : SetupId) : selectSetup p n s = s.modPlayer p fun ps => { ps with selected := n } := by
  simp only [selectSetup, h]

theorem trillAdvance_eq (st : Setup) (tr : Trill) : trillAdvance st tr = trillAfter st true true tr := by
  cases tr with
  | stopped => rfl
  | on left => simp only [trillAdvance, trillAfter, Nat.sub_eq_zero_iff_le, Bool.true_eq_false, if_false]
  | off left => simp only [trillAdvance, trillAfter, Nat.sub_eq_zero_iff_le, Bool.true_eq_false, if_false]

theorem trillFrame_eq (st : Setup) (down : Bool) (ps : PlayerState) :
    trillFrame st down ps = { ps with trill := trillAfter st ps.trillSeen down ps.trill, trillSeen := down } := by
  unfold trillFrame
  cases down with
  | false => rfl
  | true =>
    cases ps.trillSeen with
    | false => rfl
    | true => rw [← trillAdvance_eq, if_pos rfl, if_pos rfl]

theorem settle_eq (st : Setup) (masked : KeySet) (onset : Bool) (ps : PlayerState) :
    settle st masked onset ps =
      { ps with
        candidate := masked, settleCount := settleAfter ps masked
        accepted := if onset ∨ st.settleWindow ≤ settleAfter ps masked then masked else ps.accepted } := rfl

/-- A player's record once the receiver has taken a frame and, in PENDING or BREATHING, its selection waits (R21, R155,
R156). -/
def selectedRecord (s : State) (p : Player) (f : FrameBody) : PlayerState :=
  { s.player p with
    received := none, silence := some 0, seqRef := some f.seq, statusA := statusAfterSeq (s.player p) f.seq,
    selected := (senseFields f).setup }

/-- The part as the breath front end of such a frame finds it. -/
def selectedState (s : State) (p : Player) (f : FrameBody) : State := s.modPlayer p fun _ => selectedRecord s p f

/-- A player's record as the learn completion of a frame finds it: the frame is heard but for its bite and its latch
button (R20, R54, R108). -/
def keyedRecord (s : State) (p : Player) (f : FrameBody) : PlayerState :=
  { heardRecord s p f with bend := (s.player p).bend, latchSeen := (s.player p).latchSeen }

/-- The part as the learn completion of a frame finds it. -/
def keyedState (s : State) (p : Player) (f : FrameBody) : State := s.modPlayer p fun _ => keyedRecord s p f

theorem selectedState_activeSetup (s : State) (p : Player) (f : FrameBody) :
    (selectedState s p f).activeSetup p = s.activeSetup p := by
  unfold selectedState
  exact State.modPlayer_activeSetup _ _ _ _ rfl

theorem breathStep_pending_two {st : Setup} {n : Nat} (h : st.onset ≤ n) :
    breathStep st n (.pending 2) = (.breathing, .onset) := by simp [breathStep, h]

theorem breathAfter_pending_two {st : Setup} {n : Nat} (h : st.onset ≤ n) :
    breathAfter st n (.pending 2) = .breathing := by simp [breathAfter, Nat.not_lt.2 h]

section
variable {s : State} {p : Player} {f : FrameBody} (confirms : Confirms s p f)
include confirms

theorem selectSetup_of_confirms (up : (s.player p).link = .up) :
    selectSetup p (senseFields f).setup ((checkSequence p f.seq (clearReceived p s)).modPlayer p
      fun ps => { ps with silence := some 0 }) = selectedState s p f := by
  rw [checkSequence_clearReceived up, selectSetup_of_pending (k := 2) (by simp [confirms.1]),
    State.modPlayer_modPlayer, State.modPlayer_modPlayer]
  exact State.modPlayer_congr rfl

theorem breathReport_of_confirms :
    breathReport p (senseFields f).breath.toNat (selectedState s p f) = .onset := by
  have waiting : ((selectedState s p f).player p).breath = .pending 2 := by
    simp [selectedState, selectedRecord, confirms.1]
  have net : ((selectedState s p f).player p).netPressure (senseFields f).breath.toNat =
      (s.player p).netPressure (senseFields f).breath.toNat := by
    rw [selectedState, State.player_modPlayer_self]; rfl
  rw [breathReport, selectedState_activeSetup, waiting, net, breathStep_pending_two confirms.2]

theorem keyedRecord_of_confirms :
    keyedRecord s p f =
      { keyedRecord s p f with breath := .breathing, accepted := maskedKeys s p (senseFields f) } := by
  have breath := breathAfter_pending_two confirms.2
  have accepted : (keyedRecord s p f).accepted = maskedKeys s p (senseFields f) := by
    simp only [keyedRecord, heardRecord, confirms.1]
    exact if_pos (.inl ⟨nofun, breath⟩)
  rw [← accepted, ← breath, ← confirms.1]
  rfl

theorem keyStages_of_confirms :
    keyStages p (senseFields f) true (frontEnd p (senseFields f).breath.toNat (selectedState s p f)) =
      keyedState s p f := by
  have step : breathStep (s.activeSetup p) ((selectedRecord s p f).netPressure (senseFields f).breath.toNat)
      (selectedRecord s p f).breath = (.breathing, .onset) := by
    rw [← breathStep_pending_two confirms.2, ← confirms.1]
    rfl
  simp only [frontEnd, keyStages, selectedState_activeSetup, State.modPlayer_activeSetup, trillFrame_eq, settle_eq]
  simp only [selectedState, State.modPlayer_modPlayer]
  refine State.modPlayer_congr ?_
  simp only [Function.comp, step]
  rw [keyedRecord_of_confirms confirms]
  rfl

end

/-- What an onset frame does from the learn completion on (R20, R85, R121, R108, R17, R163). -/
def afterCompletion (p : Player) (f : FrameBody) (s : State) : State :=
  let s := bendStage p (senseFields f).bite s
  let s := updatePitch p (decide p .onset (resolution s p (senseFields f).contact) s)
  let s := handOff p (latchButton p (senseFields f).latch s)
  openSlot p f.seq (senseFields f).replyOk (deferredSetup p (.pending 2) s)

theorem takeSense_of_confirms {s : State} {p : Player} {f : FrameBody} (up : (s.player p).link = .up)
    (confirms : Confirms s p f) :
    takeSense p f (clearReceived p s) = afterCompletion p f (completeLearn p (keyedState s p f)) := by
  have hup : ((clearReceived p s).player p).link = .up := by simp [clearReceived, up]
  have hb : ((selectedState s p f).player p).breath = .pending 2 := by
    simp [selectedState, selectedRecord, confirms.1]
  simp only [takeSense, hup, acceptSense, selectSetup_of_confirms confirms up, breathReport_of_confirms confirms,
    resolverStages, decide_true, keyStages_of_confirms confirms, if_true, hb, afterCompletion]

/-! ### Queues that only grow (R162, R177) -/

/-- The events and the replies of a player's record begin with those of another. -/
def QueuesGrow (a b : PlayerState) : Prop := a.events <+: b.events ∧ a.replies <+: b.replies

theorem QueuesGrow.trans {a b c : PlayerState} (h : QueuesGrow a b) (k : QueuesGrow b c) : QueuesGrow a c :=
  ⟨h.1.trans k.1, h.2.trans k.2⟩

theorem QueuesGrow.of_eq {a b : PlayerState} (he : b.events = a.events) (hr : b.replies = a.replies) :
    QueuesGrow a b := ⟨⟨[], by rw [he, List.append_nil]⟩, ⟨[], by rw [hr, List.append_nil]⟩⟩

theorem QueuesGrow.queued (a : PlayerState) (e : EventRecord) : QueuesGrow a (a.queued e) := by
  refine ⟨?_, by simp⟩
  rw [PlayerState.queued_events]
  split
  · exact ⟨[e], rfl⟩
  · exact ⟨[], List.append_nil _⟩

theorem QueuesGrow.placed (a : PlayerState) (r : Reply) : QueuesGrow a (a.placed r) := by
  refine ⟨by simp, ?_⟩
  rw [PlayerState.placed_replies]
  split
  · exact ⟨[r], rfl⟩
  · exact ⟨[], List.append_nil _⟩

theorem QueuesGrow.told (a : PlayerState) (s : State) (v : VoiceId) (u : VoiceUse) (d : Option LatchEntry) :
    QueuesGrow a (a.told s v u d) := by
  unfold PlayerState.told
  cases d with
  | none => exact (QueuesGrow.queued a _).trans (.placed _ _)
  | some e => exact (((QueuesGrow.queued a _).trans (.placed _ _)).trans (.queued _ _)).trans (.placed _ _)

/-- Every player's events and replies keep what they hold, at the head. -/
def AllQueuesGrow (s t : State) : Prop := ∀ q, QueuesGrow (s.player q) (t.player q)

theorem AllQueuesGrow.refl (s : State) : AllQueuesGrow s s := fun _ => .of_eq rfl rfl

theorem AllQueuesGrow.trans {s t u : State} (h : AllQueuesGrow s t) (k : AllQueuesGrow t u) : AllQueuesGrow s u :=
  fun q => (h q).trans (k q)

theorem AllQueuesGrow.modPlayer (s : State) (p : Player) {f : PlayerState → PlayerState}
    (h : QueuesGrow (s.player p) (f (s.player p))) : AllQueuesGrow s (s.modPlayer p f) := by
  intro q
  rw [State.player_modPlayer]
  split
  · next hq => exact hq ▸ h
  · exact .of_eq rfl rfl

theorem AllQueuesGrow.foldl_modVoice (f : Voice → Voice) (l : List VoiceId) (s : State) :
    AllQueuesGrow s (l.foldl (fun t v => t.modVoice v f) s) :=
  fun q => by rw [foldl_modVoice_player]; exact .of_eq rfl rfl

theorem AllQueuesGrow.report (s : State) (p : Player) (k : EventKind) (tag : BitVec 8) (note : Nat) (fl : Byte)
    (value : Nat) : AllQueuesGrow s (report p k tag note fl value s) := .modPlayer s p (.queued _ _)

theorem AllQueuesGrow.placeReply (s : State) (p : Player) (r : Reply) : AllQueuesGrow s (placeReply p r s) :=
  .modPlayer s p (.placed _ _)

theorem AllQueuesGrow.stealVoice (v : VoiceId) (p : Player) (tag : BitVec 8) (l : LayerId) (s : State) :
    AllQueuesGrow s (stealVoice v p tag l s) := by
  cases h : (s.voice v).use with
  | none => rw [stealVoice_of_none v p tag l s h]; exact .refl s
  | some u =>
    have seized : AllQueuesGrow s (seizeVoice v u p tag l s) := by
      intro q
      rw [seizeVoice_player]
      split
      · cases (s.voice v).state <;> exact .of_eq rfl rfl
      · exact .of_eq rfl rfl
    intro q
    rw [stealVoice_player v p tag l u s h]
    split
    · exact (seized q).trans (.told _ _ _ _ _)
    · exact seized q

theorem AllQueuesGrow.layerRequest (p : Player) (note : Note) (l : LayerId) (s : State) :
    AllQueuesGrow s (layerRequest p note l s) := by
  refine AllQueuesGrow.trans (t := (poolChoice s p).apply p note l s) ?_ (.modPlayer _ p (.of_eq rfl rfl))
  cases poolChoice s p with
  | grant v rest =>
    intro q
    rw [Answer.apply, grantVoice_player]
    split
    · next hq => exact hq ▸ .of_eq rfl rfl
    · exact .of_eq rfl rfl
  | steal v => exact .stealVoice v p note.tag l s
  | deny =>
    exact (AllQueuesGrow.modPlayer s p (f := fun ps => { ps with denied := true }) (.of_eq rfl rfl)).trans
      (.placeReply _ _ _)

theorem AllQueuesGrow.onsetDecision (p : Player) (n : Nat) (fl : RangeFlag) (s : State) :
    AllQueuesGrow s (onsetDecision p n fl s) := by
  have begun : AllQueuesGrow s (beginNote p (newNote s p n fl) s) := .modPlayer s p (.of_eq rfl rfl)
  have requested := foldl_extends AllQueuesGrow _ .refl .trans (enabledLayers (s.activeSetup p))
    (beginNote p (newNote s p n fl) s) fun t l _ => AllQueuesGrow.layerRequest p (newNote s p n fl) l t
  exact (begun.trans requested).trans ((AllQueuesGrow.report _ p _ _ _ _ _).trans
    (foldl_extends AllQueuesGrow _ .refl .trans _ _ fun t _ _ => .report t p _ _ _ _ _))

theorem AllQueuesGrow.makeRoom (p : Player) (s : State) : AllQueuesGrow s (makeRoom p s) := by
  unfold Machine.makeRoom
  split
  · exact .refl s
  · next e es _ =>
    split
    · exact .refl s
    · exact ((AllQueuesGrow.foldl_modVoice (letGo .latched) e.voices s).trans
        (.modPlayer _ p (.of_eq rfl rfl))).trans (.report _ _ _ _ _ _ _)

theorem AllQueuesGrow.latchNote (p : Player) (note : Note) (s : State) : AllQueuesGrow s (latchNote p note s) :=
  (((AllQueuesGrow.foldl_modVoice _ _ s).trans (.modPlayer _ p (.of_eq rfl rfl))).trans
    (.foldl_modVoice (fun vo : Voice => { vo with claim := none }) _ _)).trans (.report _ _ _ _ _ _ _)

/-- The decision of an onset frame is an onset or none (R85). -/
theorem AllQueuesGrow.decide_onset (p : Player) (res : Resolution) (s : State) :
    AllQueuesGrow s (decide p .onset res s) := by
  unfold Machine.decide decisionFor
  cases res with
  | unmatched => exact .refl s
  | matched n fl =>
    cases (s.player p).note with
    | none => exact .onsetDecision p n fl s
    | some _ => exact .refl s

/-- A press of a BREATHING player is a push or nothing (R108). -/
theorem AllQueuesGrow.press {p : Player} {s : State} (h : (s.player p).breath = .breathing) :
    AllQueuesGrow s (press p s) := by
  unfold Machine.press
  rw [h]
  cases (s.player p).note with
  | none => exact .refl s
  | some note =>
    dsimp only
    split
    · exact .refl s
    · exact ((AllQueuesGrow.makeRoom p s).trans (.latchNote p note _)).trans (.onsetDecision _ _ _ _)

/-! ### The frame of an UP player from the learn completion on -/

/-- What the rest of a frame keeps of a completed learn: the charts, p's learn record and breath state, and what p's
queues hold. -/
structure LearnKept (p : Player) (s t : State) : Prop where
  charts : t.charts = s.charts
  learn : (t.player p).learn = (s.player p).learn
  breath : (t.player p).breath = (s.player p).breath
  queues : QueuesGrow (s.player p) (t.player p)

theorem LearnKept.trans {p : Player} {s t u : State} (h : LearnKept p s t) (k : LearnKept p t u) : LearnKept p s u :=
  ⟨k.charts.trans h.charts, k.learn.trans h.learn, k.breath.trans h.breath, h.queues.trans k.queues⟩

theorem LearnKept.of_sounds {p : Player} {s t : State} (h : SoundsOnly s t) (k : AllQueuesGrow s t) :
    LearnKept p s t where
  charts := by rw [h.1]
  learn := by rw [(h.2 p).1]
  breath := by rw [(h.2 p).1]
  queues := k p

theorem LearnKept.modPlayer (s : State) (p : Player) (f : PlayerState → PlayerState)
    (hl : (f (s.player p)).learn = (s.player p).learn) (hb : (f (s.player p)).breath = (s.player p).breath)
    (hq : QueuesGrow (s.player p) (f (s.player p))) : LearnKept p s (s.modPlayer p f) := by
  refine ⟨rfl, ?_, ?_, ?_⟩ <;> rw [State.player_modPlayer_self] <;> assumption

theorem LearnKept.latchButton {p : Player} {s : State} (h : (s.player p).breath = .breathing) (down : Bool) :
    LearnKept p s (latchButton p down s) := by
  have seen : LearnKept p s (s.modPlayer p fun ps => { ps with latchSeen := down }) :=
    .modPlayer s p _ rfl rfl (.of_eq rfl rfl)
  unfold Machine.latchButton
  dsimp only
  split
  · exact seen.trans (.of_sounds (.press p _) (.press (seen.breath.trans h)))
  · exact seen

theorem LearnKept.openSlot (p : Player) (seq : BitVec 4) (ok : Bool) (s : State) :
    LearnKept p s (openSlot p seq ok s) := by
  cases ok with
  | false => exact ⟨rfl, rfl, rfl, .of_eq rfl rfl⟩
  | true => exact .modPlayer s p (fun ps => { ps with slot := .opened seq }) rfl rfl (.of_eq rfl rfl)

theorem LearnKept.afterCompletion {p : Player} {s : State} (f : FrameBody) (h : (s.player p).breath = .breathing) :
    LearnKept p s (afterCompletion p f s) := by
  have bent : LearnKept p s (bendStage p (senseFields f).bite s) :=
    .modPlayer s p (fun ps => { ps with bend := _ }) rfl rfl (.of_eq rfl rfl)
  have decided := bent.trans (.of_sounds
    (.decide p .onset (resolution (bendStage p (senseFields f).bite s) p (senseFields f).contact) _)
    (.decide_onset p _ _))
  have pitched := decided.trans (.of_sounds (.updatePitch p _) (.foldl_modVoice _ _ _))
  have latched := pitched.trans (.latchButton (pitched.breath.trans h) (senseFields f).latch)
  have handed := latched.trans (.of_sounds (.handOff p _) (.foldl_modVoice _ _ _))
  unfold Machine.afterCompletion
  dsimp only
  rw [deferredSetup_of_not p _ _ (.inr (.inr (.inl (by rw [handed.breath, h]; decide))))]
  exact handed.trans (.openSlot p f.seq _ _)

/-! ### The frame that completes a learn (R54 to R56) -/

theorem keyedState_activeSetup (s : State) (p : Player) (f : FrameBody) :
    (keyedState s p f).activeSetup p = s.activeSetup p := by
  unfold keyedState
  exact State.modPlayer_activeSetup _ _ _ _ rfl

theorem keyedState_player (s : State) (p : Player) (f : FrameBody) :
    (keyedState s p f).player p = keyedRecord s p f := State.player_modPlayer_self s p _

section
variable {s : State} {p : Player} {f : FrameBody} (confirms : Confirms s p f)
include confirms

variable {r : LearnRecord} (pending : (s.player p).learn = some r)
include pending

/-- The entry is written whole from the frame's masked keys and the key mask (R55). -/
theorem completeLearn_keyedState_entry (n : ChartSlot) (e : EntryId) :
    (completeLearn p (keyedState s p f)).entry n e =
      if n = r.slot ∧ e = r.entry then learnedEntry s p (senseFields f) r else s.entry n e := by
  have waits : ((keyedState s p f).player p).learn = some r := by rw [keyedState_player]; exact pending
  rw [completeLearn_entry waits, keyedState_player, keyedRecord_of_confirms confirms, keyedState_activeSetup]
  rfl

theorem completeLearn_keyedState_player :
    (completeLearn p (keyedState s p f)).player p =
      ({ keyedRecord s p f with learn := none }.queued
        (learnDoneRecord s r (maskedKeys s p (senseFields f)))).placed
        (learnResultReply s r (maskedKeys s p (senseFields f))) := by
  have waits : ((keyedState s p f).player p).learn = some r := by rw [keyedState_player]; exact pending
  rw [completeLearn_player waits, if_pos rfl, keyedState_player, keyedRecord_of_confirms confirms]
  rfl

theorem completeLearn_keyedState_events :
    ((completeLearn p (keyedState s p f)).player p).events =
      ((s.player p).queuedAll [learnDoneRecord s r (maskedKeys s p (senseFields f))]).events := by
  rw [completeLearn_keyedState_player confirms pending, PlayerState.placed_events, PlayerState.queued_events,
    PlayerState.queuedAll_cons, PlayerState.queuedAll_nil, PlayerState.queued_events]
  rfl

theorem completeLearn_keyedState_replies :
    ((completeLearn p (keyedState s p f)).player p).replies =
      ((s.player p).placedAll [learnResultReply s r (maskedKeys s p (senseFields f))]).replies := by
  rw [completeLearn_keyedState_player confirms pending, PlayerState.placed_replies, PlayerState.queued_replies,
    PlayerState.placedAll, List.foldl_cons, List.foldl_nil, PlayerState.placed_replies]
  rfl

/-- The frame completes the learn before all else that it decides (R54). -/
theorem execSenseFrame_of_confirms (up : (s.player p).link = .up)
    (stands : frameStands s p { kind := .sense, body := f } = true) :
    ∃ t, exec (.senseFrame p f) s = .next t ∧ LearnKept p (completeLearn p (keyedState s p f)) t := by
  have breathing : ((completeLearn p (keyedState s p f)).player p).breath = .breathing := by
    rw [completeLearn_keyedState_player confirms pending, PlayerState.placed_breath, PlayerState.queued_breath,
      keyedRecord_of_confirms confirms]
  refine ⟨_, rfl, ?_⟩
  rw [takeFrame, if_pos stands, takeSense_of_confirms up confirms]
  exact (LearnKept.afterCompletion f breathing).trans ⟨rfl, rfl, rfl, .of_eq rfl rfl⟩

end

/-- Settles O31: the completion by its equations, and the frame as the completion over the keyed state, after which
its other stages keep the charts and only add to the queues. -/
theorem completionWritesTheLearnedEntry : Obligations.CompletionWritesTheLearnedEntry := by
  refine ⟨fun p r s pending => ⟨completeLearn_eq pending, ?_, ?_, ?_, ?_⟩,
    fun p f r s up stands confirms pending => ?_⟩
  · rw [completeLearn_entry pending, if_pos ⟨rfl, rfl⟩]
  · intro n e other
    rw [completeLearn_entry pending, if_neg other]
  · intro q other
    rw [completeLearn_player pending, if_neg other]
  · exact ⟨_, learnOutcome_cases _ _ _, learnOutcome_eq_okShadowed_iff _ _ _ _,
      (completeLearn_player pending p).trans (if_pos rfl)⟩
  · obtain ⟨t, run, kept⟩ := execSenseFrame_of_confirms confirms pending up stands
    have entries : ∀ n e, t.entry n e =
        if n = r.slot ∧ e = r.entry then learnedEntry s p (senseFields f) r else s.entry n e := fun n e => by
      rw [← completeLearn_keyedState_entry confirms pending, State.entry, kept.charts]
      rfl
    obtain ⟨more, events⟩ := kept.queues.1
    obtain ⟨later, replies⟩ := kept.queues.2
    refine ⟨t, _, _, more, later, run, ?_, fun n e other => ?_, ?_, learnReports_of_pending pending _, ?_, ?_⟩
    · rw [entries, if_pos ⟨rfl, rfl⟩]
    · rw [entries, if_neg other]
    · rw [kept.learn, completeLearn_keyedState_player confirms pending, PlayerState.placed_learn,
        PlayerState.queued_learn]
    · rw [← events, completeLearn_keyedState_events confirms pending]
    · rw [← replies, completeLearn_keyedState_replies confirms pending]

end Sys2Proof.Machine

/-!
The frame on which a note goes on (R88, R121, R17): the SOUNDING voices of a note, the change decision, and the stages
of an accepted frame of a player that stays BREATHING, up to the latch button and to the hand-off.
-/

namespace Sys2Proof.Machine

/-! ### The SOUNDING voices of the current note (R84) -/

section
variable {s : State} {p : Player}

theorem State.mem_noteVoices {v : VoiceId} :
    v ∈ s.noteVoices p ↔ v ∈ (s.player p).boundList ∧ (s.voice v).state = .sounding := by
  unfold State.noteVoices PlayerState.boundList
  cases (s.player p).note with
  | none => simp
  | some note => simp

theorem State.noteVoices_eq_nil_iff :
    s.noteVoices p = [] ↔ ∀ v, ¬(v ∈ (s.player p).boundList ∧ (s.voice v).state = .sounding) := by
  simp only [List.eq_nil_iff_forall_not_mem, State.mem_noteVoices]

theorem State.noteVoices_nodup (distinct : (s.player p).boundList.Nodup) : (s.noteVoices p).Nodup := by
  unfold State.noteVoices
  cases h : (s.player p).note with
  | none => exact List.nodup_nil
  | some note =>
    rw [PlayerState.boundList, h] at distinct
    exact distinct.filter _

end

/-- A walk over distinct voices changes each of them once, by whatever function. -/
theorem foldl_modVoice_voice_of_nodup (f : Voice → Voice) {l : List VoiceId} (distinct : l.Nodup) (s : State)
    (w : VoiceId) :
    (l.foldl (fun t v => t.modVoice v f) s).voice w = if w ∈ l then f (s.voice w) else s.voice w := by
  induction l generalizing s with
  | nil => simp
  | cons v l ih =>
    obtain ⟨fresh, distinct⟩ := List.nodup_cons.1 distinct
    rw [List.foldl_cons, ih distinct]
    rcases eq_or_ne w v with rfl | h
    · simp [fresh]
    · simp [State.voice_modVoice_other s h, h]

/-! ### The change decision (R88, R122) -/

section
variable {p : Player} {note : Note} {s : State} (current : (s.player p).note = some note) (n : Nat) (flag : RangeFlag)
include current

theorem changeDecision_eq :
    changeDecision p n flag s = { s with
      voices := (changeDecision p n flag s).voices, players := (changeDecision p n flag s).players } := by
  simp only [changeDecision, current]
  rw [foldl_modVoice_eq]
  rfl

theorem changeDecision_voice (v : VoiceId) :
    (changeDecision p n flag s).voice v =
      if v ∈ (s.player p).boundList ∧ (s.voice v).state = .sounding then
        { s.voice v with glideTarget := 100 * n } else s.voice v := by
  simp only [changeDecision, current, report_voice, State.modPlayer_voice, ← State.mem_noteVoices]
  exact foldl_modVoice_voice (fun vo : Voice => { vo with glideTarget := 100 * n }) (fun _ => rfl) _ s v

theorem changeDecision_player (q : Player) :
    (changeDecision p n flag s).player q = if q = p then
      PlayerState.queued { s.player p with note := some { note with number := n, flag := flag } }
        (recordOf s .noteChange note.tag n flag.byte 0)
    else s.player q := by
  simp only [changeDecision, current, report_player, State.player_modPlayer, foldl_modVoice_player]
  split
  · simp [recordOf]
  · rfl

end

/-! ### The decision of a frame on which the note goes on (R85, R88) -/

/-- A voice of a note that moves, or stays, takes the new number in cents as its glide target (R122). -/
def Voice.retargeted (moved : Option (Nat × RangeFlag)) (vo : Voice) : Voice :=
  { vo with glideTarget := (moved.map fun m => 100 * m.1).getD vo.glideTarget }

/-- The note of p goes on in `t`, moved from what it is in `s` or not: its SOUNDING voices have the glide target, the
change is queued, and nothing else differs. -/
structure NoteMoved (p : Player) (note : Note) (moved : Option (Nat × RangeFlag)) (s t : State) : Prop where
  frame : t = { s with voices := t.voices, players := t.players }
  others : SameOthers p s t
  player : t.player p =
    { s.player p with note := some (movedNote note moved) }.queuedAll (changeOf s note moved)
  voices : ∀ v, t.voice v =
    if v ∈ (s.player p).boundList ∧ (s.voice v).state = .sounding then (s.voice v).retargeted moved else s.voice v

section
variable {p : Player} {note : Note} {s : State} (current : (s.player p).note = some note)
include current

theorem NoteMoved.stays : NoteMoved p note none s s where
  frame := rfl
  others := fun _ _ => rfl
  player := by
    change s.player p = { s.player p with note := some note }
    rw [← current]
  voices := fun v => (ite_self (s.voice v)).symm

theorem NoteMoved.change (n : Nat) (flag : RangeFlag) :
    NoteMoved p note (some (n, flag)) s (changeDecision p n flag s) where
  frame := changeDecision_eq current n flag
  others := fun q other => by rw [changeDecision_player current, if_neg other]
  player := by rw [changeDecision_player current, if_pos rfl]; rfl
  voices := changeDecision_voice current n flag

/-- A BREATHING player takes the change decision exactly where the lookup matches another number (R85). -/
theorem NoteMoved.decide {res : Resolution} (breathing : (s.player p).breath = .breathing)
    (sounds : ¬((s.activeSetup p).policy = .silent ∧ res = .unmatched)) :
    NoteMoved p note (movesTo res note) s (decide p .none res s) := by
  unfold Machine.decide decisionFor
  rw [breathing, current]
  cases res with
  | unmatched =>
    have holds : ¬((s.activeSetup p).policy = .silent) := fun silent => sounds ⟨silent, rfl⟩
    simp only [holds, and_false, if_false]
    exact .stays current
  | matched n flag =>
    by_cases same : n = note.number
    · simp only [movesTo, same, ne_eq, not_true_eq_false, and_false, if_true, if_false]
      exact .stays current
    · simp only [movesTo, same, ne_eq, not_false_eq_true, and_self, if_true, if_false]
      exact .change current n flag

end

theorem NoteMoved.boundList {p : Player} {note : Note} {moved : Option (Nat × RangeFlag)} {s t : State}
    (h : NoteMoved p note moved s t) (current : (s.player p).note = some note) :
    (t.player p).boundList = (s.player p).boundList := by
  rw [h.player, PlayerState.boundList, PlayerState.boundList, PlayerState.queuedAll_note, current]
  rfl

theorem NoteMoved.state {p : Player} {note : Note} {moved : Option (Nat × RangeFlag)} {s t : State}
    (h : NoteMoved p note moved s t) (v : VoiceId) : (t.voice v).state = (s.voice v).state := by
  rw [h.voices]
  split <;> rfl

/-! ### The pitch update and the hand-off (R121, R17) -/

theorem updatePitch_eq (p : Player) (s : State) : updatePitch p s = { s with voices := (updatePitch p s).voices } :=
  foldl_modVoice_eq _ _ s

theorem updatePitch_player (p : Player) (s : State) (q : Player) : (updatePitch p s).player q = s.player q :=
  foldl_modVoice_player _ _ s q

theorem updatePitch_voice {p : Player} {s : State} (distinct : (s.player p).boundList.Nodup) (v : VoiceId) :
    (updatePitch p s).voice v =
      if v ∈ (s.player p).boundList ∧ (s.voice v).state = .sounding then
        (s.voice v).frameUpdate s.tuning (s.player p).bend else s.voice v := by
  simp only [← State.mem_noteVoices]
  exact foldl_modVoice_voice_of_nodup _ (State.noteVoices_nodup distinct) s v

theorem frameUpdate_retargeted (tuning bend : Int) (moved : Option (Nat × RangeFlag)) (vo : Voice) :
    (vo.retargeted moved).frameUpdate tuning bend =
      followedVoice tuning bend ((moved.map fun m => 100 * m.1).getD vo.glideTarget) vo := by
  rw [Voice.frameUpdate, retune_eq]
  rfl

theorem NoteMoved.pitched {p : Player} {note : Note} {moved : Option (Nat × RangeFlag)} {s t : State}
    (h : NoteMoved p note moved s t) (current : (s.player p).note = some note)
    (distinct : (s.player p).boundList.Nodup) (v : VoiceId) :
    (updatePitch p t).voice v =
      if v ∈ (s.player p).boundList ∧ (s.voice v).state = .sounding then
        followedVoice s.tuning (s.player p).bend ((moved.map fun m => 100 * m.1).getD (s.voice v).glideTarget)
          (s.voice v)
      else s.voice v := by
  have tuning : t.tuning = s.tuning := by rw [h.frame]
  have bend : (t.player p).bend = (s.player p).bend := by rw [h.player, PlayerState.queuedAll_bend]
  have bound := h.boundList current
  rw [updatePitch_voice (bound ▸ distinct), bound, h.state, h.voices, tuning, bend]
  split
  · exact frameUpdate_retargeted ..
  · rfl

theorem handOff_eq (p : Player) (s : State) : handOff p s = { s with voices := (handOff p s).voices } :=
  foldl_modVoice_eq _ _ s

theorem handOff_player (p : Player) (s : State) (q : Player) : (handOff p s).player q = s.player q :=
  foldl_modVoice_player _ _ s q

theorem handOff_voice (p : Player) (s : State) (v : VoiceId) :
    (handOff p s).voice v =
      if v ∈ (s.player p).boundList ∧ (s.voice v).state = .sounding then
        handedVoice (s.player p).level (s.voice v) else s.voice v := by
  simp only [← State.mem_noteVoices]
  exact foldl_modVoice_voice (handedVoice (s.player p).level) (fun _ => rfl) _ s v

theorem State.modPlayer_id (s : State) (p : Player) : s.modPlayer p (fun ps => ps) = s := by simp [State.modPlayer]

theorem openSlot_eq (p : Player) (seq : BitVec 4) (ok : Bool) (s : State) :
    openSlot p seq ok s = s.modPlayer p fun ps => { ps with slot := if ok then .opened seq else ps.slot } := by
  cases ok with
  | false => exact (s.modPlayer_id p).symm
  | true => rfl

/-- The end of a frame that leaves the player BREATHING is the hand-off and the reply slot (R17, R163). -/
theorem handedOff_openSlot (p : Player) (f : FrameBody) (b w : State) :
    HandedOff p f w (settleLine b (openSlot p f.seq (senseFields f).replyOk (handOff p w))) := by
  rw [openSlot_eq]
  refine ⟨?_, handOff_voice p w, ?_, fun q other => ?_⟩
  · rw [handOff_eq]
    rfl
  · rw [settleLine_player, State.player_modPlayer_self, handOff_player]
  · rw [settleLine_player, State.player_modPlayer_other _ other, handOff_player]

/-! ### The breath state machine (R7 to R9, R18) -/

theorem effectiveRelease_eq (st : Setup) : effectiveRelease st = min st.release (st.onset - 1) := by
  unfold effectiveRelease
  split <;> omega

section
variable {s : State} {p : Player} {f : FrameBody} (goesOn : GoesOn s p f)
include goesOn

theorem breathStep_of_goesOn :
    breathStep (s.activeSetup p) ((s.player p).netPressure (senseFields f).breath.toNat) .breathing =
      (.breathing, .none) := by
  rw [breathStep, effectiveRelease_eq, if_neg (Nat.not_lt.2 goesOn.2)]

theorem breathAfter_of_goesOn :
    breathAfter (s.activeSetup p) ((s.player p).netPressure (senseFields f).breath.toNat) .breathing =
      .breathing := if_neg (Nat.not_lt.2 goesOn.2)

theorem frameBreath_of_goesOn : frameBreath s p f = .breathing := by
  rw [frameBreath, frameSetup, goesOn.1]
  exact breathAfter_of_goesOn goesOn

/-- No setup change falls on such a frame, so a pending learn stands (R21, R22, R58). -/
theorem learnFollows_of_goesOn {t : State} (learn : (t.player p).learn = (s.player p).learn)
    (charts : t.charts = s.charts) : LearnFollows s p f t := by
  rw [LearnFollows, if_neg]
  · exact ⟨learn, charts⟩
  · simp [changesAtStart, changesAtEnd, goesOn.1, frameBreath_of_goesOn goesOn]

/-! ### The frame of a player that goes on BREATHING, up to its decision (R155, R156, R1, R20 to R29, R40) -/

/-- The part as the note decision of such a frame finds it: the frame is heard but for its latch button (R108). -/
def decidingState (s : State) (p : Player) (f : FrameBody) : State :=
  s.modPlayer p fun _ => { heardRecord s p f with latchSeen := (s.player p).latchSeen }

theorem selectSetup_of_goesOn (up : (s.player p).link = .up) :
    selectSetup p (senseFields f).setup ((checkSequence p f.seq (clearReceived p s)).modPlayer p
      fun ps => { ps with silence := some 0 }) = selectedState s p f := by
  rw [checkSequence_clearReceived up, selectSetup, State.player_modPlayer_self, State.player_modPlayer_self]
  simp only [goesOn.1, State.modPlayer_modPlayer]
  exact State.modPlayer_congr rfl

theorem selectedState_player_of_goesOn :
    (selectedState s p f).player p = { selectedRecord s p f with breath := .breathing } := by
  rw [selectedState, State.player_modPlayer_self, ← goesOn.1]
  rfl

theorem breathReport_of_goesOn :
    breathReport p (senseFields f).breath.toNat (selectedState s p f) = .none := by
  rw [breathReport, selectedState_activeSetup, selectedState_player_of_goesOn goesOn]
  exact congrArg Prod.snd (breathStep_of_goesOn goesOn)

theorem heardRecord_accepted_of_goesOn :
    (heardRecord s p f).accepted =
      if (s.activeSetup p).settleWindow ≤ settleAfter (s.player p) (maskedKeys s p (senseFields f)) then
        maskedKeys s p (senseFields f)
      else (s.player p).accepted := by
  simp only [heardRecord, goesOn.1, ne_eq, not_true_eq_false, false_and, false_or]

theorem heardRecord_breath_of_goesOn : (heardRecord s p f).breath = .breathing := by
  simp only [heardRecord, goesOn.1]
  exact breathAfter_of_goesOn goesOn

theorem keyedRecord_of_goesOn :
    keyedRecord s p f =
      { keyedRecord s p f with
        breath := .breathing
        accepted :=
          if (s.activeSetup p).settleWindow ≤ settleAfter (s.player p) (maskedKeys s p (senseFields f)) then
            maskedKeys s p (senseFields f)
          else (s.player p).accepted } := by
  rw [← heardRecord_accepted_of_goesOn goesOn, ← heardRecord_breath_of_goesOn goesOn]
  rfl

theorem keyStages_of_goesOn :
    keyStages p (senseFields f) false (frontEnd p (senseFields f).breath.toNat (selectedState s p f)) =
      keyedState s p f := by
  have step : breathStep (s.activeSetup p) ((selectedRecord s p f).netPressure (senseFields f).breath.toNat)
      (selectedRecord s p f).breath = (.breathing, .none) := by
    rw [← breathStep_of_goesOn goesOn, ← goesOn.1]
    rfl
  simp only [frontEnd, keyStages, selectedState_activeSetup, State.modPlayer_activeSetup, trillFrame_eq, settle_eq]
  simp only [selectedState, State.modPlayer_modPlayer]
  refine State.modPlayer_congr ?_
  simp only [Function.comp, step, Bool.false_eq_true, false_or]
  rw [keyedRecord_of_goesOn goesOn]
  rfl

end

theorem bendStage_keyedState (s : State) (p : Player) (f : FrameBody) :
    bendStage p (senseFields f).bite (keyedState s p f) = decidingState s p f := by
  rw [bendStage, keyedState_activeSetup, keyedState, State.modPlayer_modPlayer, decidingState]
  exact State.modPlayer_congr rfl

theorem decidingState_player (s : State) (p : Player) (f : FrameBody) :
    (decidingState s p f).player p = { heardRecord s p f with latchSeen := (s.player p).latchSeen } :=
  State.player_modPlayer_self s p _

theorem decidingState_activeSetup (s : State) (p : Player) (f : FrameBody) :
    (decidingState s p f).activeSetup p = s.activeSetup p := by
  unfold decidingState
  exact State.modPlayer_activeSetup _ _ _ _ rfl

theorem resolution_decidingState {s : State} {p : Player} {f : FrameBody} (goesOn : GoesOn s p f) :
    resolution (decidingState s p f) p (senseFields f).contact = heldResolution s p (senseFields f) := by
  simp only [resolution, noteSum, effectiveKeys, decidingState_activeSetup, decidingState_player,
    heardRecord_accepted_of_goesOn goesOn]
  rfl

/-- The part as the latch button of such a frame finds it: the note decision and the pitch update are taken (R85,
R121). -/
def followedState (s : State) (p : Player) (f : FrameBody) : State :=
  updatePitch p (decide p .none (heldResolution s p (senseFields f)) (decidingState s p f))

theorem takeSense_of_goesOn {s : State} {p : Player} {f : FrameBody} (up : (s.player p).link = .up)
    (goesOn : GoesOn s p f) :
    takeSense p f (clearReceived p s) =
      openSlot p f.seq (senseFields f).replyOk
        (deferredSetup p .breathing (handOff p (latchButton p (senseFields f).latch (followedState s p f)))) := by
  have hup : ((clearReceived p s).player p).link = .up := by simp [clearReceived, up]
  have stages : resolverStages p (senseFields f) .none
      (frontEnd p (senseFields f).breath.toNat (selectedState s p f)) = decidingState s p f := by
    rw [← bendStage_keyedState, ← keyStages_of_goesOn goesOn]
    rfl
  have before : ((selectedState s p f).player p).breath = .breathing := by rw [selectedState_player_of_goesOn goesOn]
  simp only [takeSense, hup, acceptSense, selectSetup_of_goesOn goesOn up, breathReport_of_goesOn goesOn, stages,
    before, resolution_decidingState goesOn, followedState]

/-! ### What the latch button finds of a note that has gone on (R108) -/

/-- A press leaves the breath state alone, whatever it does. -/
theorem press_breath (p : Player) (s : State) : ((press p s).player p).breath = (s.player p).breath := by
  rw [((SoundsOnly.press p s).2 p).1]

/-- A press on a note with no SOUNDING voice does nothing. -/
theorem press_of_noteVoices_nil {p : Player} {note : Note} {s : State} (breathing : (s.player p).breath = .breathing)
    (current : (s.player p).note = some note) (unheard : s.noteVoices p = []) : press p s = s := by
  simp only [press, breathing, current, unheard, if_true]

section
variable {s u : State} {p : Player} {f : FrameBody} {note : Note} {moved : Option (Nat × RangeFlag)}
  (followed : FollowedToPress s p f note moved u)
include followed

theorem FollowedToPress.currentNote : (u.player p).note = some (movedNote note moved) := by
  obtain ⟨-, -, player, -⟩ := followed
  rw [player, PlayerState.queuedAll_note]

theorem FollowedToPress.breath (goesOn : GoesOn s p f) : (u.player p).breath = .breathing := by
  obtain ⟨-, -, player, -⟩ := followed
  rw [player, PlayerState.queuedAll_breath]
  exact heardRecord_breath_of_goesOn goesOn

theorem FollowedToPress.state (v : VoiceId) : (u.voice v).state = (s.voice v).state := by
  obtain ⟨-, -, -, voices⟩ := followed
  rw [voices]
  split <;> rfl

theorem FollowedToPress.boundList (current : (s.player p).note = some note) :
    (u.player p).boundList = (s.player p).boundList := by
  rw [PlayerState.boundList, followed.currentNote, PlayerState.boundList, current]
  rfl

theorem FollowedToPress.noteVoices_eq_nil_iff (current : (s.player p).note = some note) :
    u.noteVoices p = [] ↔ s.noteVoices p = [] := by
  simp only [State.noteVoices_eq_nil_iff, followed.boundList current, followed.state]

end

/-! ### The frame from its decision to its end (R85, R121, R108, R17) -/

section
variable {s : State} {p : Player} {f : FrameBody} {note : Note} (goesOn : GoesOn s p f)
  (current : (s.player p).note = some note)
  (sounds : ¬((s.activeSetup p).policy = .silent ∧ heldResolution s p (senseFields f) = .unmatched))
include goesOn current sounds

theorem noteMoved_decidingState :
    NoteMoved p note (movesTo (heldResolution s p (senseFields f)) note) (decidingState s p f)
      (decide p .none (heldResolution s p (senseFields f)) (decidingState s p f)) := by
  refine .decide ?_ ?_ ?_
  · rw [decidingState_player]; exact current
  · rw [decidingState_player]; exact heardRecord_breath_of_goesOn goesOn
  · rwa [decidingState_activeSetup]

theorem followedState_player :
    (followedState s p f).player p =
      { heardRecord s p f with
        latchSeen := (s.player p).latchSeen
        note := some (movedNote note (movesTo (heldResolution s p (senseFields f)) note)) }.queuedAll
        (changeOf s note (movesTo (heldResolution s p (senseFields f)) note)) := by
  rw [followedState, updatePitch_player, (noteMoved_decidingState goesOn current sounds).player, decidingState_player]
  rfl

variable (distinct : (s.player p).boundList.Nodup)
include distinct

theorem followedState_voice (v : VoiceId) :
    (followedState s p f).voice v =
      if v ∈ (s.player p).boundList ∧ (s.voice v).state = .sounding then
        followedVoice s.tuning (heardRecord s p f).bend
          (((movesTo (heldResolution s p (senseFields f)) note).map fun m => 100 * m.1).getD (s.voice v).glideTarget)
          (s.voice v)
      else s.voice v := by
  have bound : ((decidingState s p f).player p).boundList = (s.player p).boundList := by
    rw [decidingState_player]; rfl
  rw [followedState, (noteMoved_decidingState goesOn current sounds).pitched
    (by rw [decidingState_player]; exact current) (bound ▸ distinct), bound, decidingState_player]
  rfl

/-- What a frame on which the note goes on does before its latch button (R88, R121). -/
theorem followedToPress_followedState :
    FollowedToPress s p f note (movesTo (heldResolution s p (senseFields f)) note)
      ((followedState s p f).modPlayer p fun ps => { ps with latchSeen := (senseFields f).latch }) := by
  have moved := noteMoved_decidingState goesOn current sounds
  refine ⟨?_, fun q other => ?_, ?_, fun v => ?_⟩
  · rw [followedState, updatePitch_eq, moved.frame]
    rfl
  · rw [State.player_modPlayer_other _ other, followedState, updatePitch_player, moved.others q other, decidingState,
      State.player_modPlayer_other _ other]
  · rw [State.player_modPlayer_self, followedState_player goesOn current sounds]
    exact (PlayerState.queuedAll_update _ (fun ps => { ps with latchSeen := (senseFields f).latch })
      (fun _ _ _ => rfl) _).symm
  · rw [State.modPlayer_voice, followedState_voice goesOn current sounds distinct, State.player_modPlayer_self,
      followedState_player goesOn current sounds, PlayerState.queuedAll_bend]

/-- A frame on which the note goes on is the decision and the pitch update, the press, and the hand-off. -/
theorem execSenseFrame_of_goesOn (accepted : AcceptedFrame s p f) :
    ∃ t u, exec (.senseFrame p f) s = .next t ∧
      FollowedToPress s p f note (movesTo (heldResolution s p (senseFields f)) note) u ∧
      HandedOff p f (if pressed s p f then press p u else u) t := by
  have followed := followedToPress_followedState goesOn current sounds distinct
  refine ⟨_, _, rfl, followed, ?_⟩
  have button : latchButton p (senseFields f).latch (followedState s p f) =
      if pressed s p f then
        press p ((followedState s p f).modPlayer p fun ps => { ps with latchSeen := (senseFields f).latch })
      else (followedState s p f).modPlayer p fun ps => { ps with latchSeen := (senseFields f).latch } := by
    rw [latchButton, followedState_player goesOn current sounds, PlayerState.queuedAll_latchSeen]
    rfl
  rw [takeFrame, if_pos accepted.stands, takeSense_of_goesOn accepted.up goesOn, button, deferredSetup_of_not]
  · exact handedOff_openSlot p f _ _
  · have breath := followed.breath goesOn
    refine .inr (.inr (.inl ?_))
    rw [handOff_player]
    split <;> simp only [press_breath, breath, ne_eq, reduceCtorEq, not_false_eq_true]

end

/-! ### The frame whose press does nothing (R88, R108) -/

theorem PlayerState.queuedAll_events_congr {a b : PlayerState} (events : a.events = b.events) (l : List EventRecord) :
    (a.queuedAll l).events = (b.queuedAll l).events := by
  induction l generalizing a b with
  | nil => exact events
  | cons e l ih => exact ih (by rw [queued_events, queued_events, events])

theorem PlayerState.queuedAll_statusA_congr {a b : PlayerState} (events : a.events = b.events)
    (statusA : a.statusA = b.statusA) (l : List EventRecord) : (a.queuedAll l).statusA = (b.queuedAll l).statusA := by
  induction l generalizing a b with
  | nil => exact statusA
  | cons e l ih =>
    exact ih (by rw [queued_events, queued_events, events]) (by rw [queued_statusA, queued_statusA, events, statusA])

/-- The note that has been followed up to the press, with its level handed off, has been followed. -/
theorem FollowedToPress.noteFollowed {s u t : State} {p : Player} {f : FrameBody} {note : Note}
    {moved : Option (Nat × RangeFlag)} (current : (s.player p).note = some note)
    (followed : FollowedToPress s p f note moved u) (handed : HandedOff p f u t) :
    NoteFollowed s p f note moved t := by
  have bound := followed.boundList current
  have state := followed.state
  obtain ⟨frameU, othersU, playerU, voicesU⟩ := followed
  obtain ⟨frameT, voicesT, playerT, othersT⟩ := handed
  have level : (t.player p).level = (u.player p).level := by rw [playerT]
  have bend : (t.player p).bend = (u.player p).bend := by rw [playerT]
  have events : (t.player p).events = (u.player p).events := by rw [playerT]
  have statusA : (t.player p).statusA = (u.player p).statusA := by rw [playerT]
  refine ⟨?_, ⟨?_, ?_, ?_⟩, fun v => ?_, ⟨?_, ?_⟩, ⟨?_, ?_, ?_, ?_⟩, fun q other => ?_⟩
  · rw [playerT, playerU]; exact PlayerState.queuedAll_note _ _
  · rw [playerT, playerU]; exact PlayerState.queuedAll_held _ _
  · rw [playerT, playerU]; exact PlayerState.queuedAll_latch _ _
  · rw [playerT, playerU]; exact PlayerState.queuedAll_tagCounter _ _
  · rw [voicesT, bound, state, voicesU, level, bend]
    split <;> rfl
  · rw [frameT, frameU]
  · rw [frameT, frameU]
  · rw [events, playerU]; exact PlayerState.queuedAll_events_congr (by rfl) _
  · rw [playerT, playerU]; exact PlayerState.queuedAll_replies _ _
  · rw [statusA, playerU]; exact PlayerState.queuedAll_statusA_congr (by rfl) (by rfl) _
  · rw [playerT, playerU]; exact PlayerState.queuedAll_denied _ _
  · rw [othersT q other, othersU q other]

/-- Settles O28: the decision by its equations, and the frame as the decision and the pitch update, a press that finds
no SOUNDING voice, and the hand-off. -/
theorem changeDecisionMovesTheNote : Obligations.ChangeDecisionMovesTheNote := by
  refine ⟨fun p n flag note s current => ⟨changeDecision_eq current n flag, changeDecision_voice current n flag, ?_,
    fun q other => ?_⟩, fun p f note s accepted goesOn current distinct idle sounds => ?_⟩
  · rw [changeDecision_player current, if_pos rfl]
  · rw [changeDecision_player current, if_neg other]
  · obtain ⟨t, u, run, followed, handed⟩ := execSenseFrame_of_goesOn goesOn current sounds distinct accepted
    have unpressed : (if pressed s p f then press p u else u) = u := by
      rcases idle with up | unheard
      · rw [up]; rfl
      · rw [press_of_noteVoices_nil (followed.breath goesOn) followed.currentNote
          ((followed.noteVoices_eq_nil_iff current).2 unheard), ite_self]
    rw [unpressed] at handed
    have breath := followed.breath goesOn
    have follows := followed.noteFollowed current handed
    obtain ⟨frameU, -, playerU, -⟩ := followed
    obtain ⟨frameT, -, playerT, -⟩ := handed
    refine ⟨t, run, ?_, learnFollows_of_goesOn goesOn ?_ ?_, follows⟩
    · rw [playerT]; exact breath
    · rw [playerT, playerU]; exact PlayerState.queuedAll_learn _ _
    · rw [frameT, frameU]

end Sys2Proof.Machine

/-!
The pitch tables (R127, R128). An irrational root of two is compared with the middle between two whole numbers by
raising both to the root's degree, so that each entry is one comparison of whole numbers.
-/

namespace Sys2Proof.Machine

/-- `x` is the whole number nearest to 65,536 times the `n`-th root of 2 to the `i`: twice `x` lies less than 1 from
131,072 times that root, and both sides stand raised to the power `n`. -/
abbrev IsRoundedRoot (n i x : Nat) : Prop :=
  (2 * x - 1) ^ n < 131072 ^ n * 2 ^ i ∧ 131072 ^ n * 2 ^ i < (2 * x + 1) ^ n

/-- R127: an entry of SEMI is the rounded twelfth root at its place. -/
theorem semiTable_isRoundedRoot : ∀ i (_ : i < semiTable.length), IsRoundedRoot 12 i semiTable[i] := by decide +kernel

/-- R128: an entry of CENT is the rounded 1,200th root at its place. -/
theorem centTable_isRoundedRoot : ∀ r (_ : r < centTable.length), IsRoundedRoot 1200 r centTable[r] := by
  decide +kernel

/-- R128: each entry of CENT is followed by one that is greater by 37 to 40. -/
theorem centTable_isChain : centTable.IsChain fun x y => x + 37 ≤ y ∧ y ≤ x + 40 := by decide +kernel

/-- Settles O59: the lengths by evaluation, each entry's bounds at its place in the table, and the differences along
the chain of CENT. -/
theorem pitchTablesAreRoundedRoots : Obligations.PitchTablesAreRoundedRoots := by
  refine ⟨rfl, rfl, fun i x entry => ?_, fun r x entry => ?_, fun r x y entry next => ?_⟩
  · obtain ⟨inTable, rfl⟩ := List.getElem?_eq_some_iff.1 entry
    exact semiTable_isRoundedRoot i inTable
  · obtain ⟨inTable, rfl⟩ := List.getElem?_eq_some_iff.1 entry
    exact centTable_isRoundedRoot r inTable
  · obtain ⟨-, rfl⟩ := List.getElem?_eq_some_iff.1 entry
    obtain ⟨inTable, rfl⟩ := List.getElem?_eq_some_iff.1 next
    exact centTable_isChain.getElem r inTable

end Sys2Proof.Machine


/-!
Commands as effects: what each command does before the interrupt line is settled, and what no command but POWER_ON
touches.
-/

namespace Sys2Proof.Machine

/-! ### The effect of a command -/

/-- What a command does to the state before the interrupt line is settled. -/
def effect (c : Instr) (s : State) : State :=
  match c with
  | .powerOn => { State.reset with pending := s.pending }
  | .samplePeriod => renderPeriod s
  | .fadeEnd v => if fadeEndDue v s then takeFadeEnd v s else s
  | .releaseEnd v => if releaseEndDue v s then freeVoice v s else s
  | .learnTimeout p => if learnDue p s then endLearn p .timeout true s else s
  | .silenceTimeout p => if silenceDue p s then loseLink p s else s
  | .character p data rx => takeCharacter p data rx s
  | .senseFrame p f => takeFrame p { kind := .sense, body := f } (takeSense p f) s
  | .hello p f => takeFrame p { kind := .hello, body := f } (takeHello p f) s
  | .learnReq p f => takeFrame p { kind := .learnReq, body := f } (takeLearnReq p f) s
  | .replySendStart p => sendStart p s
  | .replySent p => sendDone p s
  | .replySlotClosed p => closeSlot p s
  | .collision p => collide p s
  | .interruptPulseEnd => { s with pulse := false }
  | .transactionStart op addr => beginTransaction op addr s
  | .transactionEnd => endTransaction s
  | .deskWrite addr value => deskByte addr value s
  | .softReset _ => deskWriteByte requestAddress softResetAll s
  | .panic _ => deskWriteByte requestAddress panicAll s
  | .restoreChart arg => deskWriteByte requestAddress (requestRestore arg) s
  | .zeroCapture arg => deskWriteByte requestAddress (requestCapture arg) s
  | .linkReset arg => deskWriteByte requestAddress (requestLinkReset arg) s
  | .linkDisable p upper => deskWriteByte (areaAddress p 0x00) (writeLinkEnable p (upper ++ (0 : BitVec 1))) s
  | .linkEnable p upper => deskWriteByte (areaAddress p 0x00) (writeLinkEnable p (upper ++ (1 : BitVec 1))) s
  | .entryHoldingBufferWrite n e b value => deskWriteByte (entryAddress n e b.val) (holdEntryByte b value) s
  | .chartEntryFlagsWrite n e value => deskWriteByte (entryAddress n e 7) (writeEntryFlags n e value) s
  | .masterTuningWrite value => deskWriteByte (controlAddress 0x0B) (writeTuning value) s
  | .reserveWrite p value => deskWriteByte (areaAddress p 0x02) (writeReserve p value) s
  | .queueThresholdWrite p value => deskWriteByte (areaAddress p 0x06) (writeThreshold p value) s
  | .maskWrite m value => deskWriteByte (maskAddress m) (writeMask m value) s
  | .interruptModeWrite value => deskWriteByte (controlAddress 0x09) (writeMode value) s
  | .interruptPolarityWrite value => deskWriteByte (controlAddress 0x0A) (writePolarity value) s
  | .eventWindowRead p =>
    if s.txn = none then readWindowWhole p s else deskReadByte (windowAddress p) (takeWindowByte p) s
  | .statusRead b => deskReadByte (statusAddress b) (takeStatusByte b) s
  | .breathLevelRead p h => deskReadByte (levelAddress p h) (takeLevelByte p h) s

/-- Every command answers its effect with the interrupt line settled: none faults, none is refused. -/
theorem exec_eq (c : Instr) (s : State) : exec c s = .next (settleLine s (effect c s)) := by cases c <;> rfl

theorem exec_next_iff {c : Instr} {s t : State} : exec c s = .next t ↔ settleLine s (effect c s) = t := by
  rw [exec_eq, Host.Outcome.next.injEq]

/-! ### What playing and the links touch -/

/-- Only voices, the free queue, the stamp counter, the players' records and the chart store change. -/
def PlaysOnly (s t : State) : Prop :=
  t = { s with
    voices := t.voices, freeQueue := t.freeQueue, stampCounter := t.stampCounter, players := t.players,
    charts := t.charts }

theorem PlaysOnly.refl (s : State) : PlaysOnly s s := rfl

theorem PlaysOnly.trans {s t u : State} (h : PlaysOnly s t) (k : PlaysOnly t u) : PlaysOnly s u := by
  unfold PlaysOnly at *
  rw [k, h]

theorem SoundsOnly.playsOnly {s t : State} (h : SoundsOnly s t) : PlaysOnly s t := by
  unfold PlaysOnly
  rw [h.1]

theorem PlaysOnly.modPlayer (s : State) (p : Player) (f : PlayerState → PlayerState) :
    PlaysOnly s (s.modPlayer p f) := rfl

theorem PlaysOnly.modVoices (s : State) (f : Voice → Voice) : PlaysOnly s (s.modVoices f) := rfl

theorem PlaysOnly.modEntry (s : State) (n : ChartSlot) (e : EntryId) (f : ChartEntry → ChartEntry) :
    PlaysOnly s (s.modEntry n e f) := rfl

theorem PlaysOnly.raiseFlag (p : Player) (flag : Byte) (s : State) : PlaysOnly s (raiseFlag p flag s) := rfl

theorem PlaysOnly.report (s : State) (p : Player) (k : EventKind) (tag : BitVec 8) (note : Nat) (fl : Byte)
    (value : Nat) : PlaysOnly s (report p k tag note fl value s) := rfl

theorem PlaysOnly.placeReply (s : State) (p : Player) (r : Reply) : PlaysOnly s (placeReply p r s) := rfl

/-! Charts and learns -/

theorem PlaysOnly.endLearn (p : Player) (result : LearnResult) (reply : Bool) (s : State) :
    PlaysOnly s (endLearn p result reply s) := by
  unfold PlaysOnly
  rw [endLearn_eq]

theorem PlaysOnly.completeLearn (p : Player) (s : State) : PlaysOnly s (completeLearn p s) := by
  cases h : (s.player p).learn with
  | none => rw [Machine.completeLearn, h]; exact .refl s
  | some r => unfold PlaysOnly; rw [completeLearn_eq h]

theorem PlaysOnly.preempt (hit : PlayerState → Bool) (s : State) : PlaysOnly s (preempt hit s) :=
  foldl_extends PlaysOnly _ .refl .trans _ s fun t p _ => by
    split
    · exact .endLearn p _ _ t
    · exact .refl t

theorem PlaysOnly.restoreChart (n : ChartSlot) (s : State) : PlaysOnly s (restoreChart n s) :=
  PlaysOnly.trans (t := { s with charts := s.charts.set n referenceChart }) rfl (.preempt _ _)

theorem PlaysOnly.requestLearn (p : Player) (index biased : BitVec 7) (s : State) :
    PlaysOnly s (requestLearn p index biased s) := by
  unfold Machine.requestLearn
  dsimp only
  split_ifs
  · exact .placeReply ..
  · exact .placeReply ..
  · split
    · split_ifs
      · rfl
      · exact .placeReply ..
    · rfl

/-! Setups and links -/

theorem PlaysOnly.applySetup (p : Player) (s : State) : PlaysOnly s (applySetup p s) := by
  unfold PlaysOnly
  rw [applySetup_eq]

/-- A frame's selection waits, or takes effect at once where it differs from the active setup (R21). -/
theorem selectSetup_cases (p : Player) (n : SetupId) (s : State) :
    selectSetup p n s = (s.modPlayer p fun ps => { ps with selected := n }) ∨
    selectSetup p n s = Machine.applySetup p (s.modPlayer p fun ps => { ps with selected := n }) := by
  unfold Machine.selectSetup
  dsimp only
  have atOnce := ite_eq_or_eq (n = (s.player p).active) (s.modPlayer p fun ps => { ps with selected := n })
    (Machine.applySetup p (s.modPlayer p fun ps => { ps with selected := n }))
  cases (s.player p).breath with
  | quiet => exact atOnce
  | muted => exact atOnce
  | pending n => exact .inl rfl
  | breathing => exact .inl rfl

/-- The deferred setup change is taken or not (R22). -/
theorem deferredSetup_cases (p : Player) (before : BreathState) (s : State) :
    deferredSetup p before s = s ∨ deferredSetup p before s = Machine.applySetup p s := by
  unfold Machine.deferredSetup
  dsimp only
  have late := (ite_eq_or_eq ((s.player p).breath = .quiet ∧ (s.player p).selected ≠ (s.player p).active)
    (Machine.applySetup p s) s).symm
  cases before with
  | quiet => exact .inl rfl
  | muted => exact .inl rfl
  | pending n => exact late
  | breathing => exact late

theorem PlaysOnly.selectSetup (p : Player) (n : SetupId) (s : State) : PlaysOnly s (selectSetup p n s) := by
  rcases selectSetup_cases p n s with h | h <;> rw [h]
  · exact .modPlayer ..
  · exact PlaysOnly.trans (.modPlayer s p _) (.applySetup p _)

theorem PlaysOnly.deferredSetup (p : Player) (before : BreathState) (s : State) :
    PlaysOnly s (deferredSetup p before s) := by
  rcases deferredSetup_cases p before s with h | h <;> rw [h]
  · exact .refl s
  · exact .applySetup p s

theorem PlaysOnly.leaveUp (p : Player) (cause : LostCause) (after : LinkState) (s : State) :
    PlaysOnly s (leaveUp p cause after s) := by
  unfold PlaysOnly
  rw [leaveUp_eq]

theorem PlaysOnly.loseLink (p : Player) (s : State) : PlaysOnly s (loseLink p s) :=
  PlaysOnly.trans (t := (Machine.raiseFlag p linkLost s).modPlayer p fun ps => { ps with replies := [] }) rfl
    (.leaveUp ..)

theorem PlaysOnly.writeLinkEnable (p : Player) (v : Byte) (s : State) : PlaysOnly s (writeLinkEnable p v s) := by
  unfold Machine.writeLinkEnable disableLink
  dsimp only
  split_ifs
  · exact .refl s
  · exact .modPlayer ..
  · exact PlaysOnly.trans (.modPlayer s p _) (.leaveUp ..)
  · exact .modPlayer ..

theorem PlaysOnly.resetLink (p : Player) (s : State) : PlaysOnly s (resetLink p s) := by
  unfold Machine.resetLink
  dsimp only
  split_ifs
  · exact (PlaysOnly.trans (.modPlayer s p _) (.leaveUp ..)).trans (.modPlayer ..)
  · exact PlaysOnly.trans (.modPlayer s p _) (.modPlayer ..)

/-! Frames -/

theorem PlaysOnly.checkSequence (p : Player) (seq : BitVec 4) (s : State) : PlaysOnly s (checkSequence p seq s) := by
  unfold Machine.checkSequence
  dsimp only
  split
  · exact .modPlayer ..
  · split_ifs
    · exact .modPlayer ..
    · exact PlaysOnly.trans (.modPlayer s p _) (.raiseFlag ..)

theorem PlaysOnly.bringUp (p : Player) (cause : Nat) (seq : BitVec 4) (s : State) : PlaysOnly s (bringUp p cause seq s) :=
  rfl

theorem PlaysOnly.latchButton (p : Player) (down : Bool) (s : State) : PlaysOnly s (latchButton p down s) := by
  unfold Machine.latchButton
  dsimp only
  split_ifs
  · exact PlaysOnly.trans (.modPlayer s p _) (SoundsOnly.press p _).playsOnly
  · exact .modPlayer ..

theorem PlaysOnly.frontEnd (p : Player) (raw : Nat) (s : State) : PlaysOnly s (frontEnd p raw s) := rfl

theorem PlaysOnly.keyStages (p : Player) (f : SenseFields) (onset : Bool) (s : State) :
    PlaysOnly s (keyStages p f onset s) := rfl

theorem PlaysOnly.bendStage (p : Player) (bite : BitVec 7) (s : State) : PlaysOnly s (bendStage p bite s) := rfl

theorem PlaysOnly.resolverStages (p : Player) (f : SenseFields) (r : BreathReport) (s : State) :
    PlaysOnly s (resolverStages p f r s) := by
  unfold Machine.resolverStages
  dsimp only
  split_ifs
  · exact ((PlaysOnly.keyStages p f _ s).trans (.completeLearn p _)).trans (.bendStage ..)
  · exact (PlaysOnly.keyStages p f _ s).trans (.bendStage ..)

theorem PlaysOnly.openSlot (p : Player) (seq : BitVec 4) (ok : Bool) (s : State) : PlaysOnly s (openSlot p seq ok s) := by
  rw [openSlot_eq]
  exact .modPlayer ..

/-- An accepted sense frame after its setup select (R21, R155). -/
def frameSelected (p : Player) (f : SenseFields) (s : State) : State :=
  selectSetup p f.setup (s.modPlayer p fun ps => { ps with silence := some 0 })

/-- What the front end reports of an accepted sense frame (R18). -/
def frameReport (p : Player) (f : SenseFields) (s : State) : BreathReport :=
  breathReport p f.breath.toNat (frameSelected p f s)

/-- An accepted sense frame after its front end and its resolver (R1, R20). -/
def frameResolved (p : Player) (f : SenseFields) (s : State) : State :=
  resolverStages p f (frameReport p f s) (frontEnd p f.breath.toNat (frameSelected p f s))

/-- An accepted sense frame after its note decision (R85). -/
def frameDecided (p : Player) (f : SenseFields) (s : State) : State :=
  decide p (frameReport p f s) (resolution (frameResolved p f s) p f.contact) (frameResolved p f s)

/-- An accepted sense frame after its pitch update, latch button and level hand-off (R17, R108, R121). -/
def frameHanded (p : Player) (f : SenseFields) (s : State) : State :=
  handOff p (latchButton p f.latch (updatePitch p (frameDecided p f s)))

/-- The event of an accepted sense frame, stage by stage (R1, R20). -/
theorem acceptSense_eq (p : Player) (seq : BitVec 4) (f : SenseFields) (s : State) :
    acceptSense p seq f s = openSlot p seq f.replyOk
      (deferredSetup p ((frameSelected p f s).player p).breath (frameHanded p f s)) := rfl

theorem PlaysOnly.acceptSense (p : Player) (seq : BitVec 4) (f : SenseFields) (s : State) :
    PlaysOnly s (acceptSense p seq f s) := by
  have selected : PlaysOnly s (frameSelected p f s) := PlaysOnly.trans (.modPlayer s p _) (.selectSetup ..)
  have resolved : PlaysOnly s (frameResolved p f s) := (selected.trans (.frontEnd p _ _)).trans (.resolverStages ..)
  have decided : PlaysOnly s (frameDecided p f s) := resolved.trans (SoundsOnly.decide p _ _ _).playsOnly
  have handed : PlaysOnly s (frameHanded p f s) :=
    ((decided.trans (SoundsOnly.updatePitch ..).playsOnly).trans (.latchButton ..)).trans
      (SoundsOnly.handOff ..).playsOnly
  exact (handed.trans (.deferredSetup ..)).trans (.openSlot ..)

theorem PlaysOnly.takeSense (p : Player) (f : FrameBody) (s : State) : PlaysOnly s (takeSense p f s) := by
  unfold Machine.takeSense
  split
  · exact .refl s
  · exact (PlaysOnly.checkSequence p _ s).trans (.acceptSense ..)
  · exact (PlaysOnly.bringUp p 2 _ s).trans (.acceptSense ..)

theorem PlaysOnly.takeHello (p : Player) (f : FrameBody) (s : State) : PlaysOnly s (takeHello p f s) := by
  unfold Machine.takeHello
  split
  · exact (PlaysOnly.checkSequence p _ s).trans (.modPlayer ..)
  · rfl
  · rfl

theorem PlaysOnly.takeLearnReq (p : Player) (f : FrameBody) (s : State) : PlaysOnly s (takeLearnReq p f s) := by
  unfold Machine.takeLearnReq
  split
  · exact .refl s
  · exact (PlaysOnly.checkSequence p _ s).trans (.requestLearn ..)
  · rfl

/-! The ends of fades and releases, PANIC -/

theorem PlaysOnly.freeVoice (v : VoiceId) (s : State) : PlaysOnly s (freeVoice v s) := by
  unfold PlaysOnly
  rw [freeVoice_eq]

theorem PlaysOnly.takeFadeEnd (v : VoiceId) (s : State) : PlaysOnly s (takeFadeEnd v s) := by
  unfold Machine.takeFadeEnd
  split
  · exact .freeVoice v s
  · split
    · exact .freeVoice v s
    · exact handOver_eq ..

theorem PlaysOnly.panicPlayer (p : Player) (s : State) : PlaysOnly s (panicPlayer p s) := by
  unfold Machine.panicPlayer
  dsimp only
  refine PlaysOnly.trans ?_ (.modPlayer ..)
  split
  · split
    · exact .refl s
    · exact PlaysOnly.trans (.modPlayer s p _) (.report ..)
  · split
    · exact PlaysOnly.trans (.modPlayer s p _) (.report ..)
    · exact (PlaysOnly.trans (.modPlayer s p _) (.report ..)).trans (PlaysOnly.trans (.modPlayer _ p _) (.report ..))

theorem PlaysOnly.panicAll (s : State) : PlaysOnly s (panicAll s) :=
  (PlaysOnly.modVoices s _).trans (foldl_extends PlaysOnly _ .refl .trans _ _ fun t p _ => .panicPlayer p t)

end Sys2Proof.Machine


/-!
What a command can do, said once: its effect is one of the operations of `Effects`, apart from the desk port's own
fields. Every claim about all commands is an argument over these cases.
-/

namespace Sys2Proof.Machine

/-- Two states differ at most in the desk port's own fields: the held low byte, the transaction in progress and the
bytes returned (R169, R171). -/
def PortOnly (s t : State) : Prop := t = { s with heldLow := t.heldLow, txn := t.txn, miso := t.miso }

theorem PortOnly.refl (s : State) : PortOnly s s := rfl

theorem PortOnly.trans {s t u : State} (h : PortOnly s t) (k : PortOnly t u) : PortOnly s u := by
  unfold PortOnly at *
  rw [k, h]

/-! ### Housekeeping of a player's record -/

/-- What characters, the reply slot and the plain desk bytes can do to a player's record: neither its link state nor
anything that it plays changes, its queues do not grow, and the desk's fields keep their ranges (R3, R151 to R153,
R163, R164, R175, R178 to R181). -/
structure Housekeeping (a b : PlayerState) : Prop where
  frame : b = { a with
    zeroOffset := b.zeroOffset, capturePending := b.capturePending, configuredRate := b.configuredRate,
    assembly := b.assembly, restarted := b.restarted, received := b.received, replies := b.replies, slot := b.slot,
    threshold := b.threshold, maskA := b.maskA, maskB := b.maskB, statusA := b.statusA, denied := b.denied,
    events := b.events, window := b.window }
  zeroOffset : b.zeroOffset = a.zeroOffset ∨ b.zeroOffset ≤ 4095
  replies : b.replies.length ≤ a.replies.length
  threshold : b.threshold = a.threshold ∨ b.threshold ≤ 15
  maskB : b.maskB = a.maskB ∨ b.maskB.toNat ≤ 7
  events : b.events.length ≤ a.events.length

/-- An update of the fields that no claim bounds. -/
theorem Housekeeping.of_eq {a b : PlayerState} (h : b = { a with
    capturePending := b.capturePending, configuredRate := b.configuredRate, assembly := b.assembly,
    restarted := b.restarted, received := b.received, slot := b.slot, maskA := b.maskA, statusA := b.statusA,
    denied := b.denied, window := b.window }) : Housekeeping a b where
  frame := by rw [h]
  zeroOffset := .inl (by rw [h])
  replies := by rw [h]
  threshold := .inl (by rw [h])
  maskB := .inl (by rw [h])
  events := by rw [h]

theorem Housekeeping.trans {a b c : PlayerState} (h : Housekeeping a b) (k : Housekeeping b c) : Housekeeping a c where
  frame := by rw [k.frame, h.frame]
  zeroOffset := k.zeroOffset.elim (fun e => h.zeroOffset.imp e.trans e.trans_le) .inr
  replies := k.replies.trans h.replies
  threshold := k.threshold.elim (fun e => h.threshold.imp e.trans e.trans_le) .inr
  maskB := k.maskB.elim (fun e => by rw [e]; exact h.maskB) .inr
  events := k.events.trans h.events

/-- The housekeeping of one player's record is all that happens. -/
def Keeps (p : Player) (s t : State) : Prop :=
  ∃ ps, Housekeeping (s.player p) ps ∧ t = s.modPlayer p fun _ => ps

theorem Keeps.modPlayer {s : State} {p : Player} {f : PlayerState → PlayerState}
    (h : Housekeeping (s.player p) (f (s.player p))) : Keeps p s (s.modPlayer p f) :=
  ⟨_, h, State.modPlayer_congr rfl⟩

theorem Keeps.refl (p : Player) (s : State) : Keeps p s s :=
  ⟨s.player p, .of_eq rfl, by rw [State.modPlayer_congr (g := fun ps => ps) rfl, s.modPlayer_id p]⟩

theorem Keeps.trans {p : Player} {s t u : State} (h : Keeps p s t) (k : Keeps p t u) : Keeps p s u := by
  obtain ⟨a, ha, rfl⟩ := h
  obtain ⟨b, hb, rfl⟩ := k
  rw [State.player_modPlayer_self] at hb
  exact ⟨b, ha.trans hb, State.modPlayer_modPlayer s p _ _⟩

theorem Keeps.raiseFlag (p : Player) (flag : Byte) (s : State) : Keeps p s (raiseFlag p flag s) := .modPlayer (.of_eq rfl)

theorem Keeps.setAssembly (p : Player) (chars : List Byte) (s : State) : Keeps p s (setAssembly p chars s) :=
  .modPlayer (.of_eq rfl)

theorem Keeps.endReception (p : Player) (s : State) : Keeps p s (endReception p s) := .modPlayer (.of_eq rfl)

theorem Keeps.completeFrame (p : Player) (chars : List Byte) (s : State) : Keeps p s (completeFrame p chars s) := by
  unfold Machine.completeFrame
  split_ifs
  · exact .raiseFlag p _ s
  · split
    · exact .raiseFlag p _ s
    · exact .modPlayer (.of_eq rfl)

theorem Keeps.assemble (p : Player) (c : Byte) (s : State) : Keeps p s (assemble p c s) := by
  unfold Machine.assemble
  dsimp only
  split_ifs
  · exact .setAssembly p _ s
  · exact (Keeps.setAssembly p _ s).trans (.raiseFlag p _ _)
  · exact .raiseFlag p _ s
  · exact (Keeps.setAssembly p _ s).trans (.completeFrame p _ _)
  · exact .setAssembly p _ s

theorem Keeps.takeCharacter (p : Player) (c : Byte) (rx : Reception) (s : State) :
    Keeps p s (takeCharacter p c rx s) := by
  unfold Machine.takeCharacter
  split_ifs
  · exact .refl p s
  · exact .endReception p s
  · exact (Keeps.endReception p s).trans (.assemble p _ _)
  · exact ((Keeps.endReception p s).trans (.setAssembly p _ _)).trans (.raiseFlag p _ _)

theorem Keeps.sendStart (p : Player) (s : State) : Keeps p s (sendStart p s) := by
  unfold Machine.sendStart
  split
  · exact .refl p s
  · exact .refl p s
  · split
    · exact .modPlayer (.of_eq rfl)
    · next r rs waiting =>
      exact .modPlayer ⟨rfl, .inl rfl, by rw [waiting]; exact Nat.le_succ _, .inl rfl, .inl rfl, le_rfl⟩

theorem Keeps.sendDone (p : Player) (s : State) : Keeps p s (sendDone p s) := by
  unfold Machine.sendDone
  split
  · exact .modPlayer (.of_eq rfl)
  · exact .refl p s
  · exact .refl p s

theorem Keeps.closeSlot (p : Player) (s : State) : Keeps p s (closeSlot p s) := by
  unfold Machine.closeSlot
  split
  · exact .modPlayer (.of_eq rfl)
  · exact .refl p s
  · exact .refl p s

theorem Keeps.collide (p : Player) (s : State) : Keeps p s (collide p s) := by
  unfold Machine.collide
  split
  · exact Keeps.trans (.modPlayer (.of_eq rfl)) (.raiseFlag p _ _)
  · exact .refl p s
  · exact .refl p s

theorem Keeps.popWindow (p : Player) (s : State) : Keeps p s (popWindow p s) := by
  refine .modPlayer ?_
  cases queue : (s.player p).events with
  | nil => exact .of_eq (by rw [queue])
  | cons e es => exact ⟨rfl, .inl rfl, le_rfl, .inl rfl, .inl rfl, by rw [queue]; exact Nat.le_succ _⟩

theorem Keeps.writeThreshold (p : Player) (v : Byte) (s : State) : Keeps p s (writeThreshold p v s) := by
  unfold Machine.writeThreshold
  exact .modPlayer ⟨rfl, .inl rfl, le_rfl, .inr (min_le_right _ _), .inl rfl, le_rfl⟩

theorem Keeps.writeMaskA (p : Player) (v : Byte) (s : State) : Keeps p s (writeMask (.maskA p) v s) :=
  .modPlayer (f := fun ps => { ps with maskA := v }) (.of_eq rfl)

theorem Keeps.writeMaskB (p : Player) (v : Byte) (s : State) : Keeps p s (writeMask (.maskB p) v s) := by
  have named : (v &&& 0x07).toNat ≤ 7 := by
    rw [BitVec.toNat_and]
    exact Nat.and_le_right
  unfold writeMask
  exact .modPlayer ⟨rfl, .inl rfl, le_rfl, .inl rfl, .inr named, le_rfl⟩

theorem Keeps.zeroOffset (p : Player) (x : Half) (s : State) :
    Keeps p s (s.modPlayer p fun ps => { ps with zeroOffset := min x.toNat 4095 }) :=
  .modPlayer ⟨rfl, .inr (min_le_right _ _), le_rfl, .inl rfl, .inl rfl, le_rfl⟩

theorem Keeps.playsOnly {p : Player} {s t : State} (h : Keeps p s t) : PlaysOnly s t := by
  obtain ⟨ps, -, rfl⟩ := h
  rfl

/-! ### The operations -/

/-- A desk field outside the players' records and the chart store takes a value, or the clip flags are cleared. -/
inductive TableWrite (s : State) : State → Prop
  | tuning (v : Byte) : TableWrite s (writeTuning v s)
  | mask (v : Byte) : TableWrite s (writeMask .global v s)
  | mode (v : Byte) : TableWrite s (writeMode v s)
  | polarity (v : Byte) : TableWrite s (writePolarity v s)
  | masterGain (x : Half) : TableWrite s { s with masterGain := gainOf x }
  | directGain (p : Fin 4) (x : Half) : TableWrite s { s with directGains := s.directGains.set p (gainOf x) }
  | setupHalf (n : SetupId) (k : Nat) (x : Half) : TableWrite s (s.modSetup n (Setup.writeHalf k x))
  | setupByte (n : SetupId) (off : Nat) (v : Byte) : TableWrite s (s.modSetup n (Setup.writeByte off v))
  | point (c : CurveId) (i : Fin Config.numPoints) (x : Half) : TableWrite s (writePoint c i x s)
  | wave (n : WaveId) (j : Nat) (x : Half) :
      TableWrite s { s with waves := Memory.writeHalf s.waves (waveAddress n j) x }
  | clips : TableWrite s (takeStatusByte .global s).1

/-- The operations a command can come to, whatever the desk port does beside them. -/
inductive Effects (s : State) : State → Prop
  | idle : Effects s s
  | powerOn : Effects s { State.reset with pending := s.pending }
  | samplePeriod : Effects s (renderPeriod s)
  | fadeEnd (v : VoiceId) (due : fadeEndDue v s = true) : Effects s (takeFadeEnd v s)
  | releaseEnd (v : VoiceId) (due : releaseEndDue v s = true) : Effects s (freeVoice v s)
  | learnTimeout (p : Player) : Effects s (endLearn p .timeout true s)
  | silenceTimeout (p : Player) (due : silenceDue p s = true) : Effects s (loseLink p s)
  | sense (p : Player) (f : FrameBody) (stands : frameStands s p { kind := .sense, body := f } = true) :
      Effects s (takeSense p f (clearReceived p s))
  | hello (p : Player) (f : FrameBody) (stands : frameStands s p { kind := .hello, body := f } = true) :
      Effects s (takeHello p f (clearReceived p s))
  | learnReq (p : Player) (f : FrameBody) (stands : frameStands s p { kind := .learnReq, body := f } = true) :
      Effects s (takeLearnReq p f (clearReceived p s))
  | keeps {t : State} (p : Player) (h : Keeps p s t) : Effects s t
  | softReset : Effects s (softResetAll s)
  | panic : Effects s (panicAll s)
  | restore (n : ChartSlot) : Effects s (restoreChart n s)
  | linkReset (p : Player) : Effects s (resetLink p s)
  | linkEnable (p : Player) (v : Byte) : Effects s (writeLinkEnable p v s)
  | entryFlags (n : ChartSlot) (e : EntryId) (hold : Vector (Option Byte) 7) (v : Byte) :
      Effects s (preempt (·.learns n e) (s.modEntry n e (entryWritten hold v)))
  | reserve (p : Player) (v : Byte) : Effects s (writeReserve p v s)
  | ceiling (p : Player) (v : Byte) :
      Effects s (s.modPlayer p fun ps => { ps with ceiling := clampNat 1 64 v.toNat })
  | table {t : State} (h : TableWrite s t) : Effects s t

/-- The state comes to one of the operations, apart from the desk port. -/
def EffectIn (s t : State) : Prop := ∃ u, Effects s u ∧ PortOnly u t

theorem Effects.effectIn {s t : State} (h : Effects s t) : EffectIn s t := ⟨t, h, .refl t⟩

theorem PortOnly.effectIn {s t : State} (h : PortOnly s t) : EffectIn s t := ⟨s, .idle, h⟩

theorem EffectIn.port {s t u : State} (h : EffectIn s t) (k : PortOnly t u) : EffectIn s u :=
  let ⟨w, hw, hp⟩ := h
  ⟨w, hw, hp.trans k⟩

/-! ### Desk writes (R170, R171) -/

/-- A sixteen-bit field's high byte commits the value of `fieldValue` and takes its own held low byte (R171). -/
theorem writeHalfField_high (a : Half) (v : Byte) (commit : Half → State → State) (s : State) :
    ∃ x : Half, x.toNat = fieldValue s a (s.byteAt (a - 1)) v ∧
      writeHalfField a true v commit s = commit x { s with heldLow := heldAfter s a } := by
  have joined (lo : Byte) : (v ++ lo : Half).toNat = 256 * v.toNat + lo.toNat := by
    rw [BitVec.toNat_append, Nat.shiftLeft_eq, Nat.mul_comm, ← Nat.two_pow_add_eq_or_of_lt lo.isLt]
  cases held : s.heldLow with
  | none =>
    have kept : heldAfter s a = s.heldLow := by rw [heldAfter, held]
    refine ⟨v ++ s.byteAt (a - 1), by rw [joined, fieldValue, held], ?_⟩
    rw [kept, writeHalfField, if_pos rfl]
    simp only [held]
    rw [← held]
  | some own =>
    obtain ⟨owner, lo⟩ := own
    by_cases mine : owner = a - 1
    · refine ⟨v ++ lo, by simp only [joined, fieldValue, held, mine, if_true], ?_⟩
      simp only [writeHalfField, heldAfter, held, mine, if_true]
    · have kept : heldAfter s a = s.heldLow := by rw [heldAfter, held]; exact if_neg mine
      refine ⟨v ++ s.byteAt (a - 1), by simp only [joined, fieldValue, held, mine, if_false], ?_⟩
      rw [kept, writeHalfField, if_pos rfl]
      simp only [held, mine, if_false]
      rw [← held]

/-- A low byte is held with its address (R171). -/
theorem writeHalfField_low (a : Half) (v : Byte) (commit : Half → State → State) (s : State) :
    writeHalfField a false v commit s = { s with heldLow := some (a, v) } := by
  rw [writeHalfField, if_neg (by decide)]

/-- A byte of a sixteen-bit field is held, or its field takes effect. -/
theorem EffectIn.writeHalfField {s : State} (a : Half) (high : Bool) (v : Byte) {commit : Half → State → State}
    (h : ∀ x held, EffectIn s (commit x { s with heldLow := held })) :
    EffectIn s (writeHalfField a high v commit s) := by
  cases high with
  | false => rw [writeHalfField_low]; exact PortOnly.effectIn rfl
  | true =>
    obtain ⟨x, -, hx⟩ := writeHalfField_high a v commit s
    rw [hx]
    exact h x _

theorem EffectIn.writeMask (m : MaskByte) (v : Byte) (s : State) : EffectIn s (writeMask m v s) := by
  cases m with
  | maskA p => exact (Effects.keeps p (.writeMaskA p v s)).effectIn
  | maskB p => exact (Effects.keeps p (.writeMaskB p v s)).effectIn
  | global => exact (Effects.table (.mask v)).effectIn

theorem EffectIn.controlRequest (v : Byte) (s : State) : EffectIn s (controlRequest v s) := by
  unfold Machine.controlRequest requestRestore requestCapture requestLinkReset
  dsimp only
  split
  · exact Effects.softReset.effectIn
  · exact Effects.panic.effectIn
  · split_ifs
    · exact (Effects.restore _).effectIn
    · exact Effects.idle.effectIn
  · split_ifs
    · exact (Effects.keeps _ (.modPlayer (.of_eq rfl))).effectIn
    · exact Effects.idle.effectIn
  · split_ifs
    · exact (Effects.linkReset _).effectIn
    · exact Effects.idle.effectIn
  · exact Effects.idle.effectIn

theorem EffectIn.writeControl (a : Half) (off : Nat) (v : Byte) (s : State) : EffectIn s (writeControl a off v s) := by
  have master (high : Bool) := writeHalfField (s := s) a high v
    (commit := fun x t => { t with masterGain := gainOf x }) fun x _ => ⟨_, .table (.masterGain x), rfl⟩
  have direct (high : Bool) (i : Fin 4) := writeHalfField (s := s) a high v
    (commit := fun x t => { t with directGains := t.directGains.set i (gainOf x) })
    fun x _ => ⟨_, .table (.directGain i x), rfl⟩
  unfold Machine.writeControl
  split
  · exact .controlRequest v s
  · exact (Effects.table (.mode v)).effectIn
  · exact (Effects.table (.polarity v)).effectIn
  · exact (Effects.table (.tuning v)).effectIn
  · exact (Effects.table (.mask v)).effectIn
  · exact master _
  · exact master _
  · exact direct _ _
  · exact direct _ _
  · exact direct _ _
  · exact direct _ _
  · exact direct _ _
  · exact direct _ _
  · exact direct _ _
  · exact direct _ _
  · exact Effects.idle.effectIn

theorem EffectIn.writeArea (a : Half) (p : Player) (off : Nat) (v : Byte) (s : State) :
    EffectIn s (writeArea a p off v s) := by
  have zero (high : Bool) := writeHalfField (s := s) a high v
    (commit := fun x t => t.modPlayer p fun ps => { ps with zeroOffset := min x.toNat 4095 })
    fun x _ => ⟨_, .keeps p (.zeroOffset p x s), rfl⟩
  unfold Machine.writeArea
  split
  · exact (Effects.linkEnable p v).effectIn
  · exact (Effects.keeps p (.modPlayer (.of_eq rfl))).effectIn
  · exact (Effects.reserve p v).effectIn
  · exact (Effects.ceiling p v).effectIn
  · exact zero _
  · exact zero _
  · exact (Effects.keeps p (.writeThreshold p v s)).effectIn
  · exact (Effects.keeps p (.writeMaskA p v s)).effectIn
  · exact (Effects.keeps p (.writeMaskB p v s)).effectIn
  · exact Effects.idle.effectIn

theorem PortOnly.holdEntryByte (b : Fin 7) (v : Byte) (s : State) : PortOnly s (holdEntryByte b v s) := rfl

/-- The end of a learn does not look at the desk port. -/
theorem PortOnly.endLearn (p : Player) (result : LearnResult) (reply : Bool) {s t : State} (h : PortOnly s t) :
    PortOnly (endLearn p result reply s) (endLearn p result reply t) := by
  have player : t.player p = s.player p := by rw [h]; rfl
  unfold PortOnly Machine.endLearn
  rw [player]
  cases (s.player p).learn with
  | none => exact h
  | some r => cases reply <;> (rw [h]; rfl)

theorem PortOnly.preempt (hit : PlayerState → Bool) {s t : State} (h : PortOnly s t) :
    PortOnly (preempt hit s) (preempt hit t) := by
  unfold Machine.preempt
  generalize allPlayers = l
  induction l generalizing s t with
  | nil => exact h
  | cons p l ih =>
    have player : t.player p = s.player p := by rw [h]; rfl
    rw [List.foldl_cons, List.foldl_cons, player]
    cases hit (s.player p) with
    | false => exact ih h
    | true => exact ih (h.endLearn p _ _)

theorem EffectIn.writeEntryFlags (n : ChartSlot) (e : EntryId) (v : Byte) (s : State) :
    EffectIn s (writeEntryFlags n e v s) :=
  ⟨_, .entryFlags n e s.holdBuffer v, PortOnly.preempt _ rfl⟩

theorem EffectIn.writeByteAt (a : Half) (v : Byte) (s : State) : EffectIn s (writeByteAt a v s) := by
  unfold Machine.writeByteAt
  split
  · exact .writeControl ..
  · exact Effects.idle.effectIn
  · exact .writeArea ..
  · next n off _ =>
    unfold writeSetup
    split
    · exact .writeHalfField _ _ _ fun x _ => ⟨_, .table (.setupHalf n _ x), rfl⟩
    · exact (Effects.table (.setupByte n off v)).effectIn
  · next n off _ =>
    unfold writeCurve
    split_ifs
    · exact .writeHalfField _ _ _ fun x _ => ⟨_, .table (.point n _ x), rfl⟩
    · exact Effects.idle.effectIn
  · next n e b _ =>
    unfold writeChart
    split_ifs
    · exact (PortOnly.holdEntryByte _ v s).effectIn
    · exact .writeEntryFlags n e v s
  · next n off _ => exact .writeHalfField _ _ _ fun x _ => ⟨_, .table (.wave n _ x), rfl⟩
  · exact Effects.idle.effectIn

theorem PortOnly.moveOn (out : Byte) (s : State) : PortOnly s (moveOn out s) := rfl

theorem EffectIn.deskWriteByte {s : State} (a : Half) {eff : State → State} (h : EffectIn s (eff s)) :
    EffectIn s (deskWriteByte a eff s) := by
  unfold Machine.deskWriteByte
  split
  · exact h.port rfl
  · split_ifs
    · exact h.port (.moveOn 0 _)
    · exact Effects.idle.effectIn

/-! ### Desk reads (R171, R179, R180) -/

section
variable {s t : State} (same : PortOnly s t)
include same

theorem EffectIn.takeWindowByte (p : Player) : EffectIn s (takeWindowByte p t).1 := by
  unfold Machine.takeWindowByte
  rw [same]
  split_ifs
  · exact ⟨_, .keeps p (.popWindow p s), rfl⟩
  · exact PortOnly.effectIn rfl

theorem EffectIn.takeStatusByte (b : StatusByte) : EffectIn s (takeStatusByte b t).1 := by
  rw [same]
  cases b with
  | statusA p => exact ⟨_, .keeps p (.modPlayer (f := PlayerState.readStatusA) (.of_eq rfl)), rfl⟩
  | statusB p => exact ⟨_, .keeps p (.modPlayer (f := fun ps => { ps with denied := false }) (.of_eq rfl)), rfl⟩
  | global => exact ⟨_, .table .clips, rfl⟩

theorem EffectIn.takeLevelByte (p : Player) (h : HalfByte) : EffectIn s (takeLevelByte p h t).1 := by
  refine PortOnly.effectIn (same.trans ?_)
  cases h <;> rfl

theorem EffectIn.takeByteAt (a : Half) : EffectIn s (takeByteAt a t).1 := by
  unfold Machine.takeByteAt
  split
  · exact .takeWindowByte same _
  · exact .takeLevelByte same _ _
  · exact .takeLevelByte same _ _
  · exact .takeStatusByte same _
  · exact .takeStatusByte same _
  · exact .takeStatusByte same _
  all_goals exact same.effectIn

theorem EffectIn.takeAhead : EffectIn s (takeAhead t) := by
  unfold Machine.takeAhead
  split
  · exact same.effectIn
  · split
    · exact (EffectIn.takeByteAt same _).port rfl
    · exact same.effectIn
    · exact same.effectIn

end

theorem EffectIn.deskReadByte {s : State} (a : Half) {take : State → State × Byte} (h : EffectIn s (take s).1) :
    EffectIn s (deskReadByte a take s) := by
  unfold Machine.deskReadByte
  split
  · exact h.port rfl
  · split_ifs
    · exact .takeAhead (.moveOn ..)
    · exact Effects.idle.effectIn

theorem EffectIn.deskByte (a : Half) (v : Byte) (s : State) : EffectIn s (deskByte a v s) := by
  unfold Machine.deskByte
  split
  · exact .deskWriteByte a (.writeByteAt a v s)
  · split
    · exact .deskWriteByte a (.writeByteAt a v s)
    · exact .deskReadByte a (.takeByteAt (.refl s) a)
    · exact PortOnly.effectIn (.moveOn 0 s)

theorem EffectIn.beginTransaction (op : Byte) (a : Half) (s : State) : EffectIn s (beginTransaction op a s) := by
  unfold Machine.beginTransaction
  split
  · exact Effects.idle.effectIn
  · exact .takeAhead rfl

/-! ### Every command -/

theorem EffectIn.ite {s t : State} {c : Bool} (h : c = true → Effects s t) : EffectIn s (if c then t else s) := by
  cases c with
  | false => exact Effects.idle.effectIn
  | true => exact (h rfl).effectIn

theorem EffectIn.takeFrame {s : State} {p : Player} {fr : Frame} {take : State → State}
    (h : frameStands s p fr = true → Effects s (take (clearReceived p s))) : EffectIn s (takeFrame p fr take s) :=
  .ite h

/-- The effect of every command but the end of a pulse is one of the operations, apart from the desk port. -/
theorem effect_inv {c : Instr} (s : State) (hc : c ≠ .interruptPulseEnd) : EffectIn s (effect c s) := by
  cases c with
  | powerOn => exact Effects.powerOn.effectIn
  | samplePeriod => exact Effects.samplePeriod.effectIn
  | fadeEnd v => exact .ite (.fadeEnd v)
  | releaseEnd v => exact .ite (.releaseEnd v)
  | learnTimeout p => exact .ite fun _ => .learnTimeout p
  | silenceTimeout p => exact .ite (.silenceTimeout p)
  | character p c rx => exact (Effects.keeps p (.takeCharacter p c rx s)).effectIn
  | senseFrame p f => exact .takeFrame (.sense p f)
  | hello p f => exact .takeFrame (.hello p f)
  | learnReq p f => exact .takeFrame (.learnReq p f)
  | replySendStart p => exact (Effects.keeps p (.sendStart p s)).effectIn
  | replySent p => exact (Effects.keeps p (.sendDone p s)).effectIn
  | replySlotClosed p => exact (Effects.keeps p (.closeSlot p s)).effectIn
  | collision p => exact (Effects.keeps p (.collide p s)).effectIn
  | interruptPulseEnd => exact absurd rfl hc
  | transactionStart op a => exact .beginTransaction op a s
  | transactionEnd => exact PortOnly.effectIn rfl
  | deskWrite a v => exact .deskByte a v s
  | softReset _ => exact .deskWriteByte _ Effects.softReset.effectIn
  | panic _ => exact .deskWriteByte _ Effects.panic.effectIn
  | restoreChart arg =>
    refine .deskWriteByte _ ?_
    unfold requestRestore
    split_ifs
    · exact (Effects.restore _).effectIn
    · exact Effects.idle.effectIn
  | zeroCapture arg =>
    refine .deskWriteByte _ ?_
    unfold requestCapture
    split_ifs
    · exact (Effects.keeps _ (.modPlayer (.of_eq rfl))).effectIn
    · exact Effects.idle.effectIn
  | linkReset arg =>
    refine .deskWriteByte _ ?_
    unfold requestLinkReset
    split_ifs
    · exact (Effects.linkReset _).effectIn
    · exact Effects.idle.effectIn
  | linkDisable p upper => exact .deskWriteByte _ (Effects.linkEnable p _).effectIn
  | linkEnable p upper => exact .deskWriteByte _ (Effects.linkEnable p _).effectIn
  | entryHoldingBufferWrite n e b v => exact .deskWriteByte _ (PortOnly.holdEntryByte b v s).effectIn
  | chartEntryFlagsWrite n e v => exact .deskWriteByte _ (.writeEntryFlags n e v s)
  | masterTuningWrite v => exact .deskWriteByte _ (Effects.table (.tuning v)).effectIn
  | reserveWrite p v => exact .deskWriteByte _ (Effects.reserve p v).effectIn
  | queueThresholdWrite p v => exact .deskWriteByte _ (Effects.keeps p (.writeThreshold p v s)).effectIn
  | maskWrite m v => exact .deskWriteByte _ (.writeMask m v s)
  | interruptModeWrite v => exact .deskWriteByte _ (Effects.table (.mode v)).effectIn
  | interruptPolarityWrite v => exact .deskWriteByte _ (Effects.table (.polarity v)).effectIn
  | eventWindowRead p =>
    rw [effect]
    split_ifs
    · exact ⟨_, .keeps p (.popWindow p s), rfl⟩
    · exact .deskReadByte _ (.takeWindowByte (.refl s) p)
  | statusRead b => exact .deskReadByte _ (.takeStatusByte (.refl s) b)
  | breathLevelRead p h => exact .deskReadByte _ (.takeLevelByte (.refl s) p h)

/-! ### Claims about every step -/

/-- A claim that does not speak of the waiting commands, the interrupt line and the desk port. -/
def LineBlind (I : State → Prop) : Prop :=
  ∀ s t, t = { s with
    pending := t.pending, pulse := t.pulse, irqHigh := t.irqHigh, heldLow := t.heldLow, txn := t.txn,
    miso := t.miso } → I s → I t

/-- A claim that every operation keeps, every step keeps. -/
theorem step_keeps {I : State → Prop} (blind : LineBlind I) (keeps : ∀ s t, I s → Effects s t → I t) {s t : State}
    (h : I s) (run : step s = .next t) : I t := by
  unfold step at run
  cases pending : s.pending with
  | nil =>
    rw [pending] at run
    exact Host.Outcome.next.inj run ▸ h
  | cons c rest =>
    rw [pending] at run
    have begun : I { s with pending := rest } := blind s _ rfl h
    obtain rfl := exec_next_iff.1 run
    refine blind (effect c { s with pending := rest }) _ rfl ?_
    by_cases hc : c = .interruptPulseEnd
    · subst hc
      exact blind _ _ rfl begun
    · obtain ⟨u, hu, port⟩ := effect_inv { s with pending := rest } hc
      exact blind u _ (by rw [port]) (keeps _ u begun hu)

/-! ### Which part of the state an operation changes -/

/-- An operation plays, or is one of three that touch more, or writes one desk field. -/
theorem Effects.classes {s t : State} (h : Effects s t) :
    PlaysOnly s t ∨ t = { State.reset with pending := s.pending } ∨ t = renderPeriod s ∨ t = softResetAll s ∨
      TableWrite s t := by
  have plays {t : State} (k : PlaysOnly s t) : PlaysOnly s t ∨ t = { State.reset with pending := s.pending } ∨
      t = renderPeriod s ∨ t = softResetAll s ∨ TableWrite s t := .inl k
  cases h with
  | idle => exact plays (.refl s)
  | powerOn => exact .inr (.inl rfl)
  | samplePeriod => exact .inr (.inr (.inl rfl))
  | fadeEnd v => exact plays (.takeFadeEnd v s)
  | releaseEnd v => exact plays (.freeVoice v s)
  | learnTimeout p => exact plays (.endLearn ..)
  | silenceTimeout p => exact plays (.loseLink p s)
  | sense p f => exact plays (PlaysOnly.trans (.modPlayer s p _) (.takeSense p f _))
  | hello p f => exact plays (PlaysOnly.trans (.modPlayer s p _) (.takeHello p f _))
  | learnReq p f => exact plays (PlaysOnly.trans (.modPlayer s p _) (.takeLearnReq p f _))
  | keeps p k => exact plays k.playsOnly
  | softReset => exact .inr (.inr (.inr (.inl rfl)))
  | panic => exact plays (.panicAll s)
  | restore n => exact plays (.restoreChart n s)
  | linkReset p => exact plays (.resetLink p s)
  | linkEnable p v => exact plays (.writeLinkEnable p v s)
  | entryFlags n e hold v => exact plays ((PlaysOnly.modEntry s n e _).trans (.preempt _ _))
  | reserve | ceiling => exact plays rfl
  | table w => exact .inr (.inr (.inr (.inr w)))

/-! ### The command queue and the interrupt line (R182; logs 1, 6, 15) -/

/-- An operation leaves the queue of commands alone, and the pulse, unless it is POWER_ON, after which the line's mode
is LEVEL. -/
theorem Effects.line {s t : State} (h : Effects s t) :
    t.pending = s.pending ∧ (t.pulse = s.pulse ∨ t.intMode = .level) := by
  rcases h.classes with plays | rfl | rfl | rfl | writes
  · rw [plays]
    exact ⟨rfl, .inl rfl⟩
  · exact ⟨rfl, .inr rfl⟩
  · exact ⟨rfl, .inl rfl⟩
  · exact ⟨rfl, .inl rfl⟩
  · cases writes <;> exact ⟨rfl, .inl rfl⟩

theorem effect_pending (c : Instr) (s : State) : (effect c s).pending = s.pending := by
  by_cases hc : c = .interruptPulseEnd
  · subst hc; rfl
  · obtain ⟨u, hu, port⟩ := effect_inv s hc
    rw [port]
    exact hu.line.1

/-- Settling makes the line follow the flags, for an effect that leaves the pulse alone or the mode LEVEL. -/
theorem lineFollows_settleLine {s a : State} (h : a.pulse = s.pulse ∨ a.intMode = .level) :
    LineFollows s (settleLine s a) := by
  refine ⟨settleLine_driven s a, fun level => ?_, fun edge => ?_⟩
  · change pulseAfter s a = false
    rw [settleLine_intMode] at level
    rw [pulseAfter, level]
  · rw [settleLine_intMode] at edge
    have kept : a.pulse = s.pulse := h.resolve_right (by rw [edge]; decide)
    change pulseAfter s a = true ↔ s.pulse = true ∨ FlagRises s a
    rw [pulseAfter, edge]
    simp only [Bool.or_eq_true, State.transition_iff, kept]

/-- No flag rises where none changes. -/
theorem not_transition_of_flags {s t : State} (players : t.players = s.players) (global : t.globalStatus = s.globalStatus) :
    State.transition s t = false := by
  have still (x m : Byte) : ¬x &&& ~~~x &&& m ≠ 0 := by simp
  rw [← Bool.not_eq_true, State.transition_iff, FlagRises, global]
  have player (p : Player) : t.player p = s.player p := by rw [State.player, players]; rfl
  rintro (⟨p, rises | rises⟩ | rises)
  · exact still _ _ (player p ▸ rises)
  · exact still _ _ (player p ▸ rises)
  · exact still _ _ rises

/-- Settles O1: a step is the run of the front command by definition. -/
theorem stepRunsTheFrontCommand : Obligations.StepRunsTheFrontCommand := by
  refine ⟨fun s c rest front => ?_, fun s empty => ?_⟩
  · rw [step, front]
  · rw [step, empty]

/-- Settles O2: each command is answered with its effect, which leaves the queue alone. -/
theorem everyCommandCompletes : Obligations.EveryCommandCompletes :=
  fun c s => ⟨_, exec_eq c s, effect_pending c s⟩

/-- Settles O3: settling drives the pin and starts the pulse, over an effect that leaves the pulse alone. -/
theorem interruptLineFollowsTheFlags : Obligations.InterruptLineFollowsTheFlags := by
  refine ⟨fun c s t hc run => ?_, fun s => ⟨_, exec_eq _ s, ?_, settleLine_driven _ _⟩⟩
  · obtain rfl := exec_next_iff.1 run
    obtain ⟨u, hu, port⟩ := effect_inv s hc
    exact lineFollows_settleLine (by rw [port]; exact hu.line.2)
  · have flat : State.transition s { s with pulse := false } = false := not_transition_of_flags rfl rfl
    have ends : (settleLine s (effect .interruptPulseEnd s)).pulse = false := by
      change pulseAfter s { s with pulse := false } = false
      rw [pulseAfter, flat]
      cases s.intMode <;> rfl
    refine (settleLine_eq _ _).trans ?_
    rw [ends]
    rfl

/-! ### The wave store (R142, R143; log 23) -/

theorem Effects.wavesCanonical {s t : State} (canonical : WavesCanonical s) (h : Effects s t) : WavesCanonical t := by
  have same {t : State} (h : t.waves = s.waves) : WavesCanonical t := by rwa [WavesCanonical, h]
  rcases h.classes with plays | rfl | rfl | rfl | writes
  · exact same (by rw [plays])
  · exact State.reset_waves_wf
  · exact same rfl
  · exact same rfl
  · cases writes with
    | wave n j x => exact Memory.wf_writeHalf _ _ _ canonical
    | tuning | mask | mode | polarity | masterGain | directGain | setupHalf | setupByte | point | clips =>
      exact same rfl

/-- Settles O11: only a wave entry's write and POWER_ON touch the wave store. -/
theorem stepKeepsWavesCanonical : Obligations.StepKeepsWavesCanonical :=
  fun _ _ => step_keeps (fun s t h => by rw [h]; exact id) fun _ _ => Effects.wavesCanonical

end Sys2Proof.Machine


/-!
Learn records and reservations (R51): what each operation does to them, and that they name each other after every
step.
-/

namespace Sys2Proof.Machine

/-! ### A walk over the players -/

theorem mem_allPlayers (p : Player) : p ∈ allPlayers := by
  revert p
  decide

theorem allPlayers_nodup : allPlayers.Nodup := by decide

section
variable {g : State → Player → State} (record : State → Player → PlayerState)
  (player : ∀ s p q, (g s p).player q = if q = p then record s p else s.player q)
  (count : ∀ s p, (g s p).sampleCount = s.sampleCount)
  (congr : ∀ {s t : State} {p : Player}, t.player p = s.player p → t.sampleCount = s.sampleCount →
    record t p = record s p)
include player count congr

theorem foldl_players_player {l : List Player} (distinct : l.Nodup) (s : State) (q : Player) :
    (l.foldl g s).player q = if q ∈ l then record s q else s.player q := by
  induction l generalizing s with
  | nil => simp
  | cons p l ih =>
    obtain ⟨fresh, distinct⟩ := List.nodup_cons.1 distinct
    rw [List.foldl_cons, ih distinct]
    rcases eq_or_ne q p with rfl | other
    · simp [fresh, player]
    · have kept : (g s p).player q = s.player q := by rw [player, if_neg other]
      rw [kept, congr kept (count s p)]
      simp [other]

/-- A walk that rewrites each player's record from the record and the sample count rewrites all four. -/
theorem foldl_allPlayers_player (s : State) (q : Player) : (allPlayers.foldl g s).player q = record s q := by
  rw [foldl_players_player record player count congr allPlayers_nodup, if_pos (mem_allPlayers q)]

end

/-! ### Preempted learns (R57) -/

theorem preemptedRecord_congr {s t : State} {p : Player} (player : t.player p = s.player p)
    (count : t.sampleCount = s.sampleCount) : preemptedRecord t p = preemptedRecord s p := by
  unfold preemptedRecord recordOf
  rw [player, count]

theorem endLearn_preempted_player (p : Player) (s : State) (q : Player) :
    (endLearn p .preempted true s).player q = if q = p then preemptedRecord s p else s.player q := by
  rw [endLearn_player]
  congr 1
  unfold preemptedRecord learnEndedRecords PlayerState.learnPlaced
  cases h : (s.player p).learn with
  | none =>
    have same : { s.player p with learn := none } = s.player p := by rw [← h]
    simp only [if_true, PlayerState.queuedAll_nil, same]
  | some r => rfl

/-- One player's turn in the walk that preempts learns. -/
def preemptStep (hit : PlayerState → Bool) (t : State) (p : Player) : State :=
  if hit (t.player p) then endLearn p .preempted true t else t

theorem preempt_eq_foldl (hit : PlayerState → Bool) (s : State) : preempt hit s = allPlayers.foldl (preemptStep hit) s :=
  rfl

section
variable (hit : PlayerState → Bool) (s : State) (p : Player)

theorem preemptStep_player (q : Player) :
    (preemptStep hit s p).player q =
      if q = p then (if hit (s.player p) = true then preemptedRecord s p else s.player p) else s.player q := by
  unfold preemptStep
  split_ifs with h h' h'
  · rw [endLearn_preempted_player, if_pos h']
  · rw [endLearn_preempted_player, if_neg h']
  · rw [h']
  · rfl

theorem preemptStep_entry (n : ChartSlot) (e : EntryId) :
    (preemptStep hit s p).entry n e =
      if hit (s.player p) = true ∧ (s.player p).learns n e = true then { s.entry n e with reservation := none }
      else s.entry n e := by
  unfold preemptStep
  by_cases h : hit (s.player p) = true
  · simp only [h, if_true, endLearn_entry, true_and]
  · simp only [h, if_false, false_and, Bool.false_eq_true]

theorem preemptStep_sampleCount : (preemptStep hit s p).sampleCount = s.sampleCount := by
  unfold preemptStep
  split_ifs
  · exact endLearn_sampleCount ..
  · rfl

end

theorem foldl_preemptStep_entry (hit : PlayerState → Bool) {l : List Player} (distinct : l.Nodup) (s : State)
    (n : ChartSlot) (e : EntryId) :
    (l.foldl (preemptStep hit) s).entry n e =
      if ∃ p ∈ l, hit (s.player p) = true ∧ (s.player p).learns n e = true then
        { s.entry n e with reservation := none } else s.entry n e := by
  induction l generalizing s with
  | nil => simp
  | cons p l ih =>
    obtain ⟨fresh, distinct⟩ := List.nodup_cons.1 distinct
    have kept (q : Player) (hq : q ∈ l) : (preemptStep hit s p).player q = s.player q := by
      rw [preemptStep_player, if_neg]
      rintro rfl
      exact fresh hq
    have rest : (∃ q ∈ l, hit ((preemptStep hit s p).player q) = true ∧
        ((preemptStep hit s p).player q).learns n e = true) ↔
        ∃ q ∈ l, hit (s.player q) = true ∧ (s.player q).learns n e = true :=
      exists_congr fun q => and_congr_right fun hq => by rw [kept q hq]
    rw [List.foldl_cons, ih distinct]
    simp only [rest, preemptStep_entry, List.exists_mem_cons_iff]
    by_cases here : hit (s.player p) = true ∧ (s.player p).learns n e = true
    · simp [here]
    · simp only [here, if_false, false_or]

theorem preempt_player (hit : PlayerState → Bool) (s : State) (q : Player) :
    (preempt hit s).player q = if hit (s.player q) = true then preemptedRecord s q else s.player q := by
  refine foldl_allPlayers_player _ (preemptStep_player hit) (preemptStep_sampleCount hit) (fun player count => ?_) s q
  rw [player, preemptedRecord_congr player count]

theorem preempt_entry (hit : PlayerState → Bool) (s : State) (n : ChartSlot) (e : EntryId) :
    (preempt hit s).entry n e =
      if ∃ p, hit (s.player p) = true ∧ (s.player p).learns n e = true then
        { s.entry n e with reservation := none } else s.entry n e := by
  rw [preempt_eq_foldl, foldl_preemptStep_entry hit allPlayers_nodup]
  simp only [mem_allPlayers, true_and]

theorem preemptedRecord_learn (s : State) (p : Player) : (preemptedRecord s p).learn = none := by
  unfold preemptedRecord
  cases h : (s.player p).learn with
  | none => exact h
  | some r => simp only [PlayerState.placed_learn, PlayerState.queued_learn]

/-! ### States that agree on learns -/

theorem PlayerState.learns_iff (ps : PlayerState) (n : ChartSlot) (e : EntryId) :
    ps.learns n e = true ↔ ∃ r, ps.learn = some r ∧ r.slot = n ∧ r.entry = e := by
  unfold PlayerState.learns
  cases ps.learn with
  | none => simp
  | some r => simp

theorem PlayerState.learnsIn_iff (ps : PlayerState) (n : ChartSlot) :
    ps.learnsIn n = true ↔ ∃ r, ps.learn = some r ∧ r.slot = n := by
  unfold PlayerState.learnsIn
  cases ps.learn with
  | none => simp
  | some r => simp

/-- The learn records and the reservations of two states are the same. -/
structure LearnsSame (s t : State) : Prop where
  learn : ∀ p, (t.player p).learn = (s.player p).learn
  reservation : ∀ n e, (t.entry n e).reservation = (s.entry n e).reservation

theorem LearnsSame.modPlayer {s : State} {p : Player} {f : PlayerState → PlayerState}
    (h : (f (s.player p)).learn = (s.player p).learn) : LearnsSame s (s.modPlayer p f) := by
  refine ⟨fun q => ?_, fun _ _ => rfl⟩
  rw [State.player_modPlayer]
  split
  · next hq => rw [h, hq]
  · rfl

theorem LearnsSame.of_sounds {s t : State} (h : SoundsOnly s t) : LearnsSame s t := by
  refine ⟨fun p => by rw [(h.2 p).1], fun n e => ?_⟩
  rw [h.1]
  rfl

theorem LearnsReserved.congr {s t : State} (h : LearnsReserved s) (same : LearnsSame s t) : LearnsReserved t where
  recorded p r hr := by
    rw [same.learn] at hr
    rw [same.reservation]
    exact h.recorded p r hr
  reserved n e p hp := by
    rw [same.reservation] at hp
    rw [same.learn]
    exact h.reserved n e p hp

/-- The learn of p, if any, has ended: record and reservation are gone, and the other players' stand. -/
theorem LearnsReserved.ended {s t : State} (p : Player) (h : LearnsReserved s) (gone : (t.player p).learn = none)
    (others : ∀ q, q ≠ p → (t.player q).learn = (s.player q).learn)
    (entries : ∀ n e, (t.entry n e).reservation =
      if (s.player p).learns n e = true then none else (s.entry n e).reservation) : LearnsReserved t where
  recorded q r hr := by
    have hq : q ≠ p := by rintro rfl; rw [gone] at hr; cases hr
    rw [others q hq] at hr
    have mine := h.recorded q r hr
    rw [entries, if_neg, mine]
    intro theirs
    obtain ⟨r', hr', hn, he⟩ := ((s.player p).learns_iff _ _).1 theirs
    have clash := h.recorded p r' hr'
    rw [hn, he, mine] at clash
    exact hq (Option.some.inj clash)
  reserved n e q hq := by
    rw [entries] at hq
    split at hq
    · cases hq
    · next free =>
      obtain ⟨r, hr, hn, he⟩ := h.reserved n e q hq
      rcases eq_or_ne q p with rfl | other
      · exact absurd (((s.player q).learns_iff n e).2 ⟨r, hr, hn, he⟩) free
      · exact ⟨r, (others q other).trans hr, hn, he⟩

/-! ### Learns end or complete -/

theorem PlayerState.learnPlaced_learn (ps : PlayerState) (learn : Option LearnRecord) (result : LearnResult) :
    (ps.learnPlaced learn result).learn = ps.learn := by
  cases learn with
  | none => rfl
  | some r => exact PlayerState.placed_learn _ _

section
variable {s : State} (h : LearnsReserved s) (p : Player)
include h

theorem LearnsReserved.endLearn (result : LearnResult) (reply : Bool) : LearnsReserved (endLearn p result reply s) := by
  refine h.ended p ?_ (fun q other => ?_) fun n e => ?_
  · rw [endLearn_player, if_pos rfl, PlayerState.learnPlaced_learn, PlayerState.queuedAll_learn]
  · rw [endLearn_player, if_neg other]
  · rw [endLearn_entry]
    split <;> rfl

theorem LearnsReserved.applySetup : LearnsReserved (applySetup p s) := by
  refine h.ended p ?_ (fun q other => ?_) fun n e => ?_
  · rw [applySetup_player, if_pos rfl, PlayerState.learnPlaced_learn, PlayerState.queuedAll_learn]
  · rw [applySetup_player, if_neg other]
  · rw [applySetup_entry]
    split <;> rfl

theorem LearnsReserved.leaveUp (cause : LostCause) (after : LinkState) : LearnsReserved (leaveUp p cause after s) := by
  refine h.ended p ?_ (fun q other => ?_) fun n e => ?_
  · rw [leaveUp_player, if_pos rfl, PlayerState.learnPlaced_learn, PlayerState.queuedAll_learn]
    rfl
  · rw [leaveUp_player, if_neg other]
  · rw [leaveUp_entry]
    split <;> rfl

theorem LearnsReserved.completeLearn : LearnsReserved (completeLearn p s) := by
  cases pending : (s.player p).learn with
  | none => rw [Machine.completeLearn, pending]; exact h
  | some r =>
    refine h.ended p ?_ (fun q other => ?_) fun n e => ?_
    · rw [completeLearn_player pending, if_pos rfl, PlayerState.placed_learn, PlayerState.queued_learn]
    · rw [completeLearn_player pending, if_neg other]
    · have named : (s.player p).learns n e = true ↔ n = r.slot ∧ e = r.entry := by
        simp only [PlayerState.learns_iff, pending, Option.some.injEq, exists_eq_left']
        exact and_congr eq_comm eq_comm
      rw [completeLearn_entry pending]
      simp only [named]
      split <;> rfl

theorem LearnsReserved.modPlayer {f : PlayerState → PlayerState} (hf : (f (s.player p)).learn = (s.player p).learn) :
    LearnsReserved (s.modPlayer p f) := h.congr (.modPlayer hf)

theorem LearnsReserved.report (k : EventKind) (tag : BitVec 8) (note : Nat) (fl : Byte) (value : Nat) :
    LearnsReserved (report p k tag note fl value s) := h.congr (.of_sounds (.report ..))

theorem LearnsReserved.placeReply (r : Reply) : LearnsReserved (placeReply p r s) :=
  h.congr (.of_sounds (.placeReply ..))

theorem LearnsReserved.deferredSetup (before : BreathState) : LearnsReserved (deferredSetup p before s) := by
  rcases deferredSetup_cases p before s with e | e <;> rw [e]
  · exact h
  · exact h.applySetup p

theorem LearnsReserved.selectSetup (n : SetupId) : LearnsReserved (selectSetup p n s) := by
  have selected : LearnsReserved (s.modPlayer p fun ps => { ps with selected := n }) := h.modPlayer p rfl
  rcases selectSetup_cases p n s with e | e <;> rw [e]
  · exact selected
  · exact selected.applySetup p

/-! ### Frames and links -/

theorem LearnsReserved.checkSequence (seq : BitVec 4) : LearnsReserved (checkSequence p seq s) := by
  unfold Machine.checkSequence
  dsimp only
  have seen : LearnsReserved (s.modPlayer p fun ps => { ps with seqRef := some seq }) := h.modPlayer p rfl
  split
  · exact seen
  · split_ifs
    · exact seen
    · exact seen.modPlayer p rfl

theorem LearnsReserved.bringUp (cause : Nat) (seq : BitVec 4) : LearnsReserved (bringUp p cause seq s) :=
  (h.modPlayer p rfl).report p _ _ _ _ _

theorem LearnsReserved.latchButton (down : Bool) : LearnsReserved (latchButton p down s) := by
  unfold Machine.latchButton
  dsimp only
  have seen : LearnsReserved (s.modPlayer p fun ps => { ps with latchSeen := down }) := h.modPlayer p rfl
  split_ifs
  · exact seen.congr (.of_sounds (.press p _))
  · exact seen

theorem LearnsReserved.resolverStages (f : SenseFields) (r : BreathReport) :
    LearnsReserved (resolverStages p f r s) := by
  unfold Machine.resolverStages
  dsimp only
  have keyed (onset : Bool) : LearnsReserved (keyStages p f onset s) := by
    unfold keyStages
    exact h.modPlayer p rfl
  have bent {t : State} (k : LearnsReserved t) : LearnsReserved (bendStage p f.bite t) := by
    unfold bendStage
    exact k.modPlayer p rfl
  split_ifs
  · exact bent ((keyed _).completeLearn p)
  · exact bent (keyed _)

theorem LearnsReserved.openSlot (seq : BitVec 4) (ok : Bool) : LearnsReserved (openSlot p seq ok s) := by
  rw [openSlot_eq]
  exact h.modPlayer p rfl

theorem LearnsReserved.acceptSense (seq : BitVec 4) (f : SenseFields) : LearnsReserved (acceptSense p seq f s) := by
  have selected : LearnsReserved (frameSelected p f s) := LearnsReserved.selectSetup (h.modPlayer p rfl) p f.setup
  have fronted : LearnsReserved (frontEnd p f.breath.toNat (frameSelected p f s)) := by
    unfold frontEnd
    exact selected.modPlayer p rfl
  have resolved : LearnsReserved (frameResolved p f s) := fronted.resolverStages p f _
  have decided : LearnsReserved (frameDecided p f s) := resolved.congr (.of_sounds (.decide p _ _ _))
  have pitched := decided.congr (.of_sounds (.updatePitch p _))
  have handed : LearnsReserved (frameHanded p f s) := (pitched.latchButton p f.latch).congr (.of_sounds (.handOff p _))
  exact (handed.deferredSetup p _).openSlot p seq f.replyOk

theorem LearnsReserved.requestLearn (index biased : BitVec 7) : LearnsReserved (requestLearn p index biased s) := by
  have accepted (slot : ChartSlot) (e : EntryId) (idle : (s.player p).learn = none)
      (free : ∀ q, (s.entry slot e).reservation = some q → q = p) : LearnsReserved (acceptLearn p slot e biased s) := by
    have learn (q : Player) : ((acceptLearn p slot e biased s).player q).learn = 
        if q = p then
          some { slot := slot, entry := e, offset := learnOffset biased, deadline := s.sampleCount + learnPeriods }
        else (s.player q).learn := by
      rw [acceptLearn, State.player_modPlayer]
      split <;> rfl
    have entry (n : ChartSlot) (d : EntryId) : ((acceptLearn p slot e biased s).entry n d).reservation =
        if n = slot ∧ d = e then some p else (s.entry n d).reservation := by
      rw [acceptLearn, State.modPlayer_entry, State.entry_modEntry]
      split <;> rfl
    refine ⟨fun q r hr => ?_, fun n d q hq => ?_⟩
    · rw [learn] at hr
      split at hr
      · next mine =>
        obtain rfl := Option.some.inj hr
        rw [entry, if_pos ⟨rfl, rfl⟩, mine]
      · next other =>
        have named := h.recorded q r hr
        rw [entry, if_neg, named]
        rintro ⟨rfl, rfl⟩
        exact other (free q named)
    · rw [entry] at hq
      rw [learn]
      split at hq
      · next here =>
        rw [if_pos (Option.some.inj hq).symm]
        exact ⟨_, rfl, here.1.symm, here.2.symm⟩
      · obtain ⟨r, hr, named⟩ := h.reserved n d q hq
        have other : q ≠ p := by rintro rfl; rw [idle] at hr; cases hr
        rw [if_neg other]
        exact ⟨r, hr, named⟩
  unfold Machine.requestLearn
  dsimp only
  split_ifs with busy wide
  · exact h.placeReply p _
  · exact h.placeReply p _
  · have idle : (s.player p).learn = none := by simpa using busy
    split
    · next q held =>
      split_ifs with mine
      · refine accepted _ _ idle fun q' hq' => ?_
        rw [held] at hq'
        exact Option.some.inj hq' ▸ mine
      · exact h.placeReply p _
    · next free =>
      refine accepted _ _ idle fun q hq => ?_
      rw [free] at hq
      cases hq

theorem LearnsReserved.takeSense (f : FrameBody) : LearnsReserved (takeSense p f s) := by
  unfold Machine.takeSense
  split
  · exact h
  · exact (h.checkSequence p f.seq).acceptSense p _ _
  · exact (h.bringUp p 2 f.seq).acceptSense p _ _

theorem LearnsReserved.takeHello (f : FrameBody) : LearnsReserved (takeHello p f s) := by
  unfold Machine.takeHello
  have counted : LearnsReserved (takeKeyCount p f.c1 s) := h.modPlayer p rfl
  split
  · exact (h.checkSequence p f.seq).modPlayer p rfl
  · exact counted.bringUp p 1 f.seq
  · exact counted.bringUp p 1 f.seq

theorem LearnsReserved.takeLearnReq (f : FrameBody) : LearnsReserved (takeLearnReq p f s) := by
  unfold Machine.takeLearnReq
  split
  · exact h
  · exact (h.checkSequence p f.seq).requestLearn p f.c1 f.c2
  · exact (h.report p _ _ _ _ _).placeReply p _

theorem LearnsReserved.writeLinkEnable (v : Byte) : LearnsReserved (writeLinkEnable p v s) := by
  unfold Machine.writeLinkEnable disableLink
  dsimp only
  split_ifs
  · exact h
  · exact h.modPlayer p rfl
  · exact LearnsReserved.leaveUp (h.modPlayer p rfl) p _ _
  · exact h.modPlayer p rfl

theorem LearnsReserved.resetLink : LearnsReserved (resetLink p s) := by
  unfold Machine.resetLink
  dsimp only
  have reset : LearnsReserved (s.modPlayer p PlayerState.resetReceiver) := h.modPlayer p rfl
  split_ifs
  · exact (reset.leaveUp p _ _).modPlayer p rfl
  · exact reset.modPlayer p rfl

end

/-! ### The chart store's own writes -/

theorem referenceChart_reservation (e : EntryId) : (referenceChart[e]).reservation = none := by
  revert e
  decide

/-- The chart store is written where reservations go with the write, and every learn that named one of the
entries is preempted. -/
theorem LearnsReserved.preempt {s u : State} (h : LearnsReserved s) (hit : PlayerState → Bool)
    (written : ChartSlot → EntryId → Prop) (players : ∀ p, u.player p = s.player p)
    (cleared : ∀ n e, written n e → (u.entry n e).reservation = none)
    (kept : ∀ n e, ¬written n e → u.entry n e = s.entry n e)
    (hits : ∀ p r, (s.player p).learn = some r → (hit (s.player p) = true ↔ written r.slot r.entry)) :
    LearnsReserved (preempt hit u) where
  recorded p r hr := by
    rw [preempt_player, players] at hr
    split at hr
    · rw [preemptedRecord_learn] at hr
      cases hr
    · next stands =>
      have unwritten : ¬written r.slot r.entry := fun w => stands ((hits p r hr).2 w)
      have named := h.recorded p r hr
      rw [preempt_entry, if_neg, kept _ _ unwritten, named]
      rintro ⟨q, hq, names⟩
      rw [players] at hq names
      obtain ⟨r', hr', slot, entry⟩ := (PlayerState.learns_iff ..).1 names
      exact unwritten (slot ▸ entry ▸ (hits q r' hr').1 hq)
  reserved n e p hp := by
    rw [preempt_entry] at hp
    split at hp
    · cases hp
    · by_cases w : written n e
      · rw [cleared n e w] at hp
        cases hp
      · rw [kept n e w] at hp
        obtain ⟨r, hr, slot, entry⟩ := h.reserved n e p hp
        refine ⟨r, ?_, slot, entry⟩
        rw [preempt_player, players, if_neg, hr]
        rw [hits p r hr, slot, entry]
        exact w

theorem restoreChart_image (n : ChartSlot) (s : State) (m : ChartSlot) (e : EntryId) :
    ({ s with charts := s.charts.set n referenceChart } : State).entry m e =
      if m = n then referenceChart[e] else s.entry m e := by
  rcases eq_or_ne m n with rfl | other
  · simp [State.entry]
  · have off : n.val ≠ m.val := fun h => other (Fin.ext h.symm)
    simp [State.entry, other, off]

theorem LearnsReserved.restoreChart {s : State} (h : LearnsReserved s) (n : ChartSlot) :
    LearnsReserved (restoreChart n s) := by
  refine h.preempt _ (fun m _ => m = n) (fun _ => rfl) (fun m e w => ?_) (fun m e w => ?_) fun p r hr => ?_
  · rw [restoreChart_image, if_pos w, referenceChart_reservation]
  · rw [restoreChart_image, if_neg w]
  · simp only [PlayerState.learnsIn_iff, hr, Option.some.injEq, exists_eq_left']

theorem LearnsReserved.entryFlags {s : State} (h : LearnsReserved s) (n : ChartSlot) (e : EntryId)
    (hold : Vector (Option Byte) 7) (v : Byte) :
    LearnsReserved (Machine.preempt (·.learns n e) (s.modEntry n e (entryWritten hold v))) := by
  refine h.preempt _ (fun m d => m = n ∧ d = e) (fun _ => rfl) (fun m d w => ?_) (fun m d w => ?_) fun p r hr => ?_
  · rw [State.entry_modEntry, if_pos w]
    rfl
  · rw [State.entry_modEntry, if_neg w]
  · simp only [PlayerState.learns_iff, hr, Option.some.injEq, exists_eq_left']

theorem softResetAll_entry (s : State) (n : ChartSlot) (e : EntryId) :
    (softResetAll s).entry n e = { s.entry n e with reservation := none } := by
  simp [softResetAll, State.entry, State.modPlayers]

theorem softResetAll_player (s : State) (p : Player) : (softResetAll s).player p = (s.player p).softReset :=
  State.player_modPlayers _ _ _

/-! ### PANIC (R104, R12, R115) -/

/-- A player's record after a PANIC. -/
def panicRecord (s : State) (p : Player) : PlayerState :=
  PlayerState.queuedAll
    { s.player p with
      note := none, latch := [], breath := if (s.player p).breath = .quiet then .quiet else .muted }
    (noteOffRecords s p 4 ++ latchClearRecords s p 3)

/-- The note of a player ends by a PANIC (R104). -/
def panicNote (p : Player) (s : State) : State :=
  match (s.player p).note with
  | none => s
  | some note =>
    report p .noteOff note.tag note.number 0 OffReason.panic.code
      (s.modPlayer p fun ps => { ps with note := none })

/-- The stack of a player is emptied by a PANIC (R115). -/
def panicStack (p : Player) (s : State) : State :=
  match (s.player p).latch with
  | [] => s
  | e :: es => report p .latchClear 0 (e :: es).length 0 3 (s.modPlayer p fun ps => { ps with latch := [] })

/-- A player that blows is muted by a PANIC (R12). -/
def PlayerState.panicked (ps : PlayerState) : PlayerState :=
  { ps with breath := if ps.breath = .quiet then .quiet else .muted }

theorem panicPlayer_eq (p : Player) (s : State) :
    panicPlayer p s = (panicStack p (panicNote p s)).modPlayer p PlayerState.panicked := by
  have mute (ps : PlayerState) : (match ps.breath with
      | .breathing | .pending _ | .muted => BreathState.muted
      | .quiet => .quiet) = if ps.breath = .quiet then .quiet else .muted := by
    cases ps.breath <;> rfl
  have steps : panicPlayer p s = (panicStack p (panicNote p s)).modPlayer p fun ps =>
      { ps with breath := match ps.breath with
          | .breathing | .pending _ | .muted => .muted
          | .quiet => .quiet } := rfl
  rw [steps]
  refine State.modPlayer_congr ?_
  rw [PlayerState.panicked, ← mute]

theorem panicNote_player (p q : Player) (s : State) :
    (panicNote p s).player q =
      if q = p then { s.player p with note := none }.queuedAll (noteOffRecords s p 4) else s.player q := by
  unfold panicNote noteOffRecords
  rcases eq_or_ne q p with rfl | other
  · cases h : (s.player q).note with
    | none =>
      have same : { s.player q with note := none } = s.player q := by rw [← h]
      simp only [if_true, PlayerState.queuedAll_nil, same]
    | some n =>
      simp only [if_true, report_player_self, State.player_modPlayer_self]
      rfl
  · cases h : (s.player p).note with
    | none => rw [if_neg other]
    | some n => rw [if_neg other, report_player_other _ _ _ _ _ _ _ other, State.player_modPlayer_other _ other]

theorem panicStack_player (p q : Player) (s : State) :
    (panicStack p s).player q =
      if q = p then { s.player p with latch := [] }.queuedAll (latchClearRecords s p 3) else s.player q := by
  unfold panicStack latchClearRecords
  rcases eq_or_ne q p with rfl | other
  · cases h : (s.player q).latch with
    | nil =>
      have same : { s.player q with latch := [] } = s.player q := by rw [← h]
      simp only [if_true, PlayerState.queuedAll_nil, same]
    | cons e es =>
      simp only [if_true, report_player_self, State.player_modPlayer_self, reduceCtorEq, if_false]
      rfl
  · cases h : (s.player p).latch with
    | nil => rw [if_neg other]
    | cons e es => rw [if_neg other, report_player_other _ _ _ _ _ _ _ other, State.player_modPlayer_other _ other]

theorem panicNote_sampleCount (p : Player) (s : State) : (panicNote p s).sampleCount = s.sampleCount := by
  unfold panicNote
  cases (s.player p).note <;> rfl

theorem panicPlayer_player (s : State) (p q : Player) :
    (panicPlayer p s).player q = if q = p then panicRecord s p else s.player q := by
  rw [panicPlayer_eq]
  rcases eq_or_ne q p with rfl | other
  · have latch : ((panicNote q s).player q).latch = (s.player q).latch := by
      rw [panicNote_player, if_pos rfl, PlayerState.queuedAll_latch]
    rw [if_pos rfl, State.player_modPlayer_self, panicStack_player, if_pos rfl,
      latchClearRecords_congr latch (panicNote_sampleCount q s), panicNote_player, if_pos rfl]
    have emptied := PlayerState.queuedAll_then { s.player q with note := none } (noteOffRecords s q 4)
      (fun x => { x with latch := [] }) fun _ _ _ => rfl
    have muted := PlayerState.queuedAll_then { s.player q with note := none, latch := [] }
      (noteOffRecords s q 4 ++ latchClearRecords s q 3) PlayerState.panicked fun _ _ _ => rfl
    rw [emptied, ← PlayerState.queuedAll_append]
    exact muted
  · rw [if_neg other, State.player_modPlayer_other _ other, panicStack_player, if_neg other, panicNote_player,
      if_neg other]

theorem panicAll_player (s : State) (p : Player) : (panicAll s).player p = panicRecord s p := by
  have walked := foldl_allPlayers_player (g := fun t q => panicPlayer q t) panicRecord
    (fun s p q => panicPlayer_player s p q)
    (fun s p => by rw [PlaysOnly.panicPlayer p s])
    (fun {s t p} player count => by
      rw [panicRecord, panicRecord, player, noteOffRecords_congr (congrArg PlayerState.note player) count,
        latchClearRecords_congr (congrArg PlayerState.latch player) count])
    (s.modVoices Voice.panicked) p
  exact walked

theorem panicPlayer_eq_players (p : Player) (s : State) :
    panicPlayer p s = { s with players := (panicPlayer p s).players } := by
  unfold panicPlayer
  cases (s.player p).note with
  | none => dsimp only; cases (s.player p).latch <;> rfl
  | some n =>
    dsimp only
    split <;> rfl

theorem panicAll_eq (s : State) :
    panicAll s = { s with voices := mapVector Voice.panicked s.voices, players := (panicAll s).players } :=
  by
  have walked := foldl_extends (fun s t : State => t = { s with players := t.players }) (fun t p => panicPlayer p t)
    (fun _ => rfl) (fun h k => by rw [k, h]) allPlayers (s.modVoices Voice.panicked)
    fun t p _ => panicPlayer_eq_players p t
  exact walked

/-! ### Every operation -/

theorem State.reset_player (p : Player) : State.reset.player p = PlayerState.reset := by
  simp [State.reset, State.player]

theorem State.reset_voice (v : VoiceId) : State.reset.voice v = resetVoice := by
  simp [State.reset, State.voice]

theorem State.reset_reservation (n : ChartSlot) (e : EntryId) : (State.reset.entry n e).reservation = none := by
  change (powerOnCharts[n][e]).reservation = none
  revert n e
  decide

/-- An idle player and an unreserved chart store agree. -/
theorem LearnsReserved.of_none {s : State} (idle : ∀ p, (s.player p).learn = none)
    (free : ∀ n e, (s.entry n e).reservation = none) : LearnsReserved s where
  recorded p r hr := by
    rw [idle] at hr
    cases hr
  reserved n e p hp := by
    rw [free] at hp
    cases hp

theorem LearnsSame.freeVoice (v : VoiceId) (s : State) : LearnsSame s (freeVoice v s) := by
  refine ⟨fun p => ?_, fun n e => ?_⟩
  · rw [freeVoice_player]
    split <;> rfl
  · rw [freeVoice_eq]
    rfl

theorem LearnsSame.handOver (v : VoiceId) (c : Claim) (note : Note) (s : State) :
    LearnsSame s (handOver v c note s) := by
  refine ⟨fun p => ?_, fun _ _ => rfl⟩
  rw [handOver_player]
  split <;> rfl

theorem LearnsSame.takeFadeEnd (v : VoiceId) (s : State) : LearnsSame s (takeFadeEnd v s) := by
  unfold Machine.takeFadeEnd
  split
  · exact .freeVoice v s
  · split
    · exact .freeVoice v s
    · exact .handOver ..

theorem PlayerState.countSilence_eq (ps : PlayerState) :
    ps.countSilence = { ps with silence := ps.countSilence.silence } := by
  unfold PlayerState.countSilence
  split <;> rfl

theorem renderPeriod_player (s : State) (p : Player) : (renderPeriod s).player p = (s.player p).countSilence :=
  State.player_modPlayers _ _ _

theorem Effects.learnsReserved {s t : State} (h : LearnsReserved s) (effects : Effects s t) : LearnsReserved t := by
  cases effects with
  | idle => exact h
  | powerOn =>
    exact .of_none (fun p => congrArg PlayerState.learn (State.reset_player p)) State.reset_reservation
  | samplePeriod =>
    refine h.congr ⟨fun p => ?_, fun _ _ => rfl⟩
    rw [renderPeriod_player, PlayerState.countSilence_eq]
  | fadeEnd v => exact h.congr (.takeFadeEnd v s)
  | releaseEnd v => exact h.congr (.freeVoice v s)
  | learnTimeout p => exact h.endLearn ..
  | silenceTimeout p =>
    have flagged : LearnsReserved (raiseFlag p linkLost s) := h.modPlayer p rfl
    exact LearnsReserved.leaveUp (flagged.modPlayer p rfl) p _ _
  | sense p f => exact LearnsReserved.takeSense (h.modPlayer p rfl) p f
  | hello p f => exact LearnsReserved.takeHello (h.modPlayer p rfl) p f
  | learnReq p f => exact LearnsReserved.takeLearnReq (h.modPlayer p rfl) p f
  | keeps p k =>
    obtain ⟨ps, kept, rfl⟩ := k
    exact h.modPlayer p (by rw [kept.frame])
  | softReset =>
    refine .of_none (fun p => ?_) fun n e => ?_
    · rw [softResetAll_player]
      rfl
    · rw [softResetAll_entry]
  | panic =>
    refine h.congr ⟨fun p => ?_, fun n e => ?_⟩
    · rw [panicAll_player, panicRecord, PlayerState.queuedAll_learn]
    · rw [panicAll_eq]
      rfl
  | restore n => exact h.restoreChart n
  | linkReset p => exact h.resetLink p
  | linkEnable p v => exact h.writeLinkEnable p v
  | entryFlags n e hold v => exact h.entryFlags n e hold v
  | reserve p | ceiling p => exact h.modPlayer p rfl
  | table w => cases w <;> exact h.congr ⟨fun _ => rfl, fun _ _ => rfl⟩

/-- Settles O8: an operation that removes a record removes its reservation, and the other way round. -/
theorem stepKeepsLearnsReserved : Obligations.StepKeepsLearnsReserved :=
  fun _ _ => step_keeps (fun s t h => by rw [h]; exact fun k => k.congr ⟨fun _ => rfl, fun _ _ => rfl⟩)
    fun _ _ => Effects.learnsReserved

end Sys2Proof.Machine


/-!
The bounds of queues, latch stacks, reserves and ceilings (R83, R107, R162, R176): no operation lets a queue or a
stack outgrow its size.
-/

namespace Sys2Proof.Machine

/-! ### Records -/

/-- Queues and stack of a player's record stay within their sizes, and its reserve and its ceiling as they are. -/
structure QueuesFit (a b : PlayerState) : Prop where
  events : a.events.length ≤ 32 → b.events.length ≤ 32
  replies : a.replies.length ≤ 8 → b.replies.length ≤ 8
  latch : a.latch.length ≤ 4 → b.latch.length ≤ 4
  reserve : b.reserve = a.reserve
  ceiling : b.ceiling = a.ceiling

theorem QueuesFit.of_le {a b : PlayerState} (events : b.events.length ≤ a.events.length)
    (replies : b.replies.length ≤ a.replies.length) (latch : b.latch.length ≤ a.latch.length)
    (reserve : b.reserve = a.reserve) (ceiling : b.ceiling = a.ceiling) : QueuesFit a b :=
  ⟨events.trans, replies.trans, latch.trans, reserve, ceiling⟩

/-- An update of other fields. -/
theorem QueuesFit.of_eq {a b : PlayerState} (events : b.events = a.events) (replies : b.replies = a.replies)
    (latch : b.latch = a.latch) (reserve : b.reserve = a.reserve) (ceiling : b.ceiling = a.ceiling) : QueuesFit a b :=
  .of_le (by rw [events]) (by rw [replies]) (by rw [latch]) reserve ceiling

theorem QueuesFit.refl (a : PlayerState) : QueuesFit a a := .of_eq rfl rfl rfl rfl rfl

theorem QueuesFit.trans {a b c : PlayerState} (h : QueuesFit a b) (k : QueuesFit b c) : QueuesFit a c :=
  ⟨k.events ∘ h.events, k.replies ∘ h.replies, k.latch ∘ h.latch, k.reserve.trans h.reserve, k.ceiling.trans h.ceiling⟩

theorem QueuesFit.queued (a : PlayerState) (e : EventRecord) : QueuesFit a (a.queued e) where
  events := a.queued_events_length e
  replies h := by rwa [PlayerState.queued_replies]
  latch h := by rwa [PlayerState.queued_latch]
  reserve := PlayerState.queued_reserve ..
  ceiling := PlayerState.queued_ceiling ..

theorem QueuesFit.placed (a : PlayerState) (r : Reply) : QueuesFit a (a.placed r) where
  events h := by rwa [PlayerState.placed_events]
  replies := a.placed_replies_length r
  latch h := by rwa [PlayerState.placed_latch]
  reserve := PlayerState.placed_reserve ..
  ceiling := PlayerState.placed_ceiling ..

theorem QueuesFit.queuedAll {a b : PlayerState} (h : QueuesFit a b) (l : List EventRecord) :
    QueuesFit a (b.queuedAll l) := by
  induction l generalizing b with
  | nil => exact h
  | cons e l ih => exact ih (h.trans (.queued b e))

theorem QueuesFit.learnPlaced {a b : PlayerState} (h : QueuesFit a b) (learn : Option LearnRecord)
    (result : LearnResult) : QueuesFit a (b.learnPlaced learn result) := by
  cases learn with
  | none => exact h
  | some r => exact h.trans (.placed b _)

theorem QueuesFit.told {a b : PlayerState} (h : QueuesFit a b) (s : State) (v : VoiceId) (u : VoiceUse)
    (d : Option LatchEntry) : QueuesFit a (b.told s v u d) := by
  unfold PlayerState.told
  cases d with
  | none => exact (h.trans (.queued b _)).trans (.placed _ _)
  | some e => exact (((h.trans (.queued b _)).trans (.placed _ _)).trans (.queued _ _)).trans (.placed _ _)

theorem shrinkStack_length_le (v : VoiceId) (l : List LatchEntry) : (shrinkStack v l).length ≤ l.length := by
  induction l with
  | nil => exact le_rfl
  | cons e l ih =>
    unfold shrinkStack
    split_ifs
    · exact Nat.le_succ _
    · exact le_rfl
    · exact Nat.succ_le_succ ih

theorem QueuesFit.detached (a : PlayerState) (v : VoiceId) (st : VoiceState) (held : Nat) :
    QueuesFit a { a.detached v st with held := held } := by
  cases st with
  | latched => exact .of_le le_rfl le_rfl (shrinkStack_length_le v a.latch) rfl rfl
  | sounding | free | releasing | fading => exact .of_eq rfl rfl rfl rfl rfl

/-! ### States -/

/-- Every player's queues and stack stay within their sizes. -/
structure AllFit (s t : State) : Prop where
  player : ∀ p, QueuesFit (s.player p) (t.player p)

theorem AllFit.refl (s : State) : AllFit s s := ⟨fun _ => .refl _⟩

theorem AllFit.trans {s t u : State} (h : AllFit s t) (k : AllFit t u) : AllFit s u :=
  ⟨fun p => (h.player p).trans (k.player p)⟩

/-- One player's record is rewritten. -/
theorem AllFit.of_player {s t : State} {p : Player} {ps : PlayerState}
    (players : ∀ q, t.player q = if q = p then ps else s.player q) (h : QueuesFit (s.player p) ps) : AllFit s t := by
  refine ⟨fun q => ?_⟩
  rw [players]
  split
  · next hq => exact hq ▸ h
  · exact .refl _

theorem AllFit.modPlayer {s : State} {p : Player} {f : PlayerState → PlayerState}
    (h : QueuesFit (s.player p) (f (s.player p))) : AllFit s (s.modPlayer p f) :=
  .of_player (s.player_modPlayer p · f) h

theorem AllFit.of_players {s t : State} (h : ∀ p, t.player p = s.player p) : AllFit s t := ⟨fun p => by
  rw [h]
  exact .refl _⟩

theorem AllFit.foldl_modVoice (f : Voice → Voice) (l : List VoiceId) (s : State) :
    AllFit s (l.foldl (fun t v => t.modVoice v f) s) := .of_players fun _ => foldl_modVoice_player ..

theorem AllFit.report (s : State) (p : Player) (k : EventKind) (tag : BitVec 8) (note : Nat) (fl : Byte) (value : Nat) :
    AllFit s (report p k tag note fl value s) := .of_player (report_player s p k tag note fl value) (.queued _ _)

theorem AllFit.placeReply (s : State) (p : Player) (r : Reply) : AllFit s (placeReply p r s) :=
  .of_player (placeReply_player s p r) (.placed _ _)

theorem AllFit.raiseFlag (s : State) (p : Player) (flag : Byte) : AllFit s (raiseFlag p flag s) :=
  .modPlayer (.of_eq rfl rfl rfl rfl rfl)

/-! ### Notes and the pool -/

theorem AllFit.stealVoice (v : VoiceId) (p : Player) (tag : BitVec 8) (l : LayerId) (s : State) :
    AllFit s (stealVoice v p tag l s) := by
  cases h : (s.voice v).use with
  | none => rw [stealVoice_of_none v p tag l s h]; exact .refl s
  | some u =>
    have seized : AllFit s (seizeVoice v u p tag l s) := by
      refine ⟨fun q => ?_⟩
      rw [seizeVoice_player]
      split
      · exact .detached ..
      · exact .of_eq rfl rfl rfl rfl rfl
    refine ⟨fun q => ?_⟩
    rw [stealVoice_player v p tag l u s h]
    split
    · exact (seized.player q).told ..
    · exact seized.player q

theorem AllFit.answer (p : Player) (note : Note) (l : LayerId) (s : State) (a : Answer) :
    AllFit s (a.apply p note l s) := by
  cases a with
  | grant v rest => exact .of_player (grantVoice_player v rest p note l s) (.of_eq rfl rfl rfl rfl rfl)
  | steal v => exact .stealVoice v p note.tag l s
  | deny =>
    exact .of_player (denyLayer_player p note.number l s)
      ((QueuesFit.of_eq (a := s.player p) (b := { s.player p with denied := true }) rfl rfl rfl rfl rfl).trans
        (.placed _ _))

theorem AllFit.layerRequest (p : Player) (note : Note) (l : LayerId) (s : State) : AllFit s (layerRequest p note l s) := by
  unfold Machine.layerRequest bind
  exact (AllFit.answer p note l s _).trans (.modPlayer (.of_eq rfl rfl rfl rfl rfl))

theorem AllFit.onsetDecision (p : Player) (n : Nat) (fl : RangeFlag) (s : State) : AllFit s (onsetDecision p n fl s) := by
  have begun : AllFit s (beginNote p (newNote s p n fl) s) := .modPlayer (.of_eq rfl rfl rfl rfl rfl)
  have requested := foldl_extends AllFit _ .refl .trans (enabledLayers (s.activeSetup p))
    (beginNote p (newNote s p n fl) s) fun t l _ => AllFit.layerRequest p (newNote s p n fl) l t
  exact (begun.trans requested).trans ((AllFit.report _ p _ _ _ _ _).trans
    (foldl_extends AllFit _ .refl .trans _ _ fun t _ _ => .report t p _ _ _ _ _))

theorem AllFit.changeDecision (p : Player) (n : Nat) (fl : RangeFlag) (s : State) :
    AllFit s (changeDecision p n fl s) := by
  unfold Machine.changeDecision
  split
  · exact .refl s
  · exact ((AllFit.foldl_modVoice _ _ s).trans (.modPlayer (.of_eq rfl rfl rfl rfl rfl))).trans (.report ..)

theorem AllFit.offDecision (p : Player) (r : OffReason) (s : State) : AllFit s (offDecision p r s) :=
  .of_player (offDecision_player p r s)
    ((QueuesFit.of_eq (a := s.player p) (b := { s.player p with note := none }) rfl rfl rfl rfl rfl).queuedAll _)

theorem AllFit.decide (p : Player) (r : BreathReport) (res : Resolution) (s : State) : AllFit s (decide p r res s) := by
  unfold Machine.decide
  cases decisionFor r (s.player p).breath res (s.activeSetup p).policy (s.player p).note with
  | none => exact .refl s
  | onset n f => exact .onsetDecision p n f s
  | change n f => exact .changeDecision p n f s
  | off reason => exact .offDecision p reason s

/-! ### The latch stack -/

theorem AllFit.clearStack (p : Player) (r : Nat) (s : State) : AllFit s (clearStack p r s) :=
  .of_player (clearStack_player p r s)
    ((QueuesFit.of_le (a := s.player p) (b := { s.player p with latch := [] }) le_rfl le_rfl (Nat.zero_le _) rfl
      rfl).queuedAll _)

theorem releaseEntry_player (e : LatchEntry) (s : State) (p : Player) : (releaseEntry e s).player p = s.player p :=
  foldl_modVoice_player (letGo .latched) e.voices s p

/-- Room for a push: nothing is done below four entries, and at four the bottom one is dropped (R109). -/
theorem makeRoom_cases (p : Player) (s : State) :
    ((s.player p).latch.length < 4 ∧ makeRoom p s = s) ∨
    ∃ e es, (s.player p).latch = e :: es ∧ 4 ≤ (s.player p).latch.length ∧
      makeRoom p s = report p .latchDrop e.tag e.number e.flag.byte 1
        ((releaseEntry e s).modPlayer p fun ps => { ps with latch := es }) := by
  unfold makeRoom latchStackSize
  cases stack : (s.player p).latch with
  | nil => exact .inl ⟨Nat.zero_lt_succ 3, rfl⟩
  | cons e es =>
    dsimp only
    split_ifs with room
    · exact .inl ⟨room, rfl⟩
    · exact .inr ⟨e, es, rfl, Nat.le_of_not_lt room, rfl⟩

theorem AllFit.makeRoom (p : Player) (s : State) : AllFit s (makeRoom p s) := by
  rcases makeRoom_cases p s with ⟨-, e⟩ | ⟨bottom, es, stack, -, e⟩ <;> rw [e]
  · exact .refl s
  · have released : AllFit s (releaseEntry bottom s) := .of_players (releaseEntry_player bottom s)
    have shorter : es.length ≤ ((releaseEntry bottom s).player p).latch.length := by
      rw [releaseEntry_player, stack]
      exact Nat.le_succ _
    exact (released.trans (.modPlayer (.of_le le_rfl le_rfl shorter rfl rfl))).trans (.report ..)

/-- Room has been made for one entry (R109). -/
theorem makeRoom_latch_length {p : Player} {s : State} (h : (s.player p).latch.length ≤ 4) :
    ((makeRoom p s).player p).latch.length ≤ 3 := by
  rcases makeRoom_cases p s with ⟨room, e⟩ | ⟨bottom, es, stack, -, e⟩ <;> rw [e]
  · exact Nat.le_of_lt_succ room
  · rw [stack] at h
    rw [report_player_self, PlayerState.queued_latch, State.player_modPlayer_self]
    exact Nat.le_of_succ_le_succ h

theorem latchNote_player (p : Player) (note : Note) (s : State) (q : Player) :
    (latchNote p note s).player q =
      if q = p then
        PlayerState.queued
          { s.player p with
            latch := (s.player p).latch ++ [latchEntryOf s p note (s.noteVoices p)], note := none }
          (recordOf s .latchPush note.tag note.number note.flag.byte (s.noteVoices p).length)
      else s.player q := by
  unfold Machine.latchNote
  simp only [clearClaim_eq]
  rcases eq_or_ne q p with rfl | other
  · rw [if_pos rfl, report_player_self, foldl_modVoice_player, State.player_modPlayer_self, foldl_modVoice_player]
    simp [recordOf]
  · rw [if_neg other, report_player_other _ _ _ _ _ _ _ other, foldl_modVoice_player,
      State.player_modPlayer_other _ other, foldl_modVoice_player]

/-- A note is latched after room has been made: the stack holds at most four entries again (R109, R110). -/
theorem AllFit.latchNote_makeRoom (p : Player) (note : Note) (s : State) :
    AllFit s (latchNote p note (Machine.makeRoom p s)) := by
  have room := AllFit.makeRoom p s
  refine ⟨fun q => ?_⟩
  rw [latchNote_player]
  split
  · next hq =>
    subst hq
    have fit := room.player q
    refine QueuesFit.trans ?_ (.queued _ _)
    refine ⟨fit.events, fit.replies, fun h => ?_, fit.reserve, fit.ceiling⟩
    rw [List.length_append]
    exact Nat.succ_le_succ (makeRoom_latch_length h)
  · exact room.player q

theorem AllFit.press (p : Player) (s : State) : AllFit s (press p s) := by
  unfold Machine.press
  split
  · split
    · exact .refl s
    · exact (AllFit.latchNote_makeRoom p _ s).trans (.onsetDecision ..)
  · exact .refl s
  · exact .clearStack p 1 s
  · exact .clearStack p 1 s
  · exact .clearStack p 1 s
  · exact .refl s

theorem AllFit.latchButton (p : Player) (down : Bool) (s : State) : AllFit s (latchButton p down s) := by
  unfold Machine.latchButton
  dsimp only
  have seen : AllFit s (s.modPlayer p fun ps => { ps with latchSeen := down }) := .modPlayer (.of_eq rfl rfl rfl rfl rfl)
  split_ifs
  · exact seen.trans (.press p _)
  · exact seen

/-! ### Learns and setups -/

theorem AllFit.endLearn (p : Player) (result : LearnResult) (reply : Bool) (s : State) :
    AllFit s (endLearn p result reply s) :=
  .of_player (endLearn_player p result reply s)
    (((QueuesFit.of_eq (a := s.player p) (b := { s.player p with learn := none }) rfl rfl rfl rfl rfl).queuedAll
      _).learnPlaced _ _)

theorem AllFit.completeLearn (p : Player) (s : State) : AllFit s (completeLearn p s) := by
  cases pending : (s.player p).learn with
  | none => rw [Machine.completeLearn, pending]; exact .refl s
  | some r =>
    exact .of_player (completeLearn_player pending) 
      (((QueuesFit.of_eq (a := s.player p) (b := { s.player p with learn := none }) rfl rfl rfl rfl rfl).trans
        (.queued _ _)).trans (.placed _ _))

theorem AllFit.applySetup (p : Player) (s : State) : AllFit s (applySetup p s) :=
  .of_player (applySetup_player p s) 
    (((QueuesFit.of_eq (a := s.player p) (b := { s.player p with active := (s.player p).selected, learn := none })
      rfl rfl rfl rfl rfl).queuedAll _).learnPlaced _ _)

theorem AllFit.selectSetup (p : Player) (n : SetupId) (s : State) : AllFit s (selectSetup p n s) := by
  have selected : AllFit s (s.modPlayer p fun ps => { ps with selected := n }) := .modPlayer (.of_eq rfl rfl rfl rfl rfl)
  rcases selectSetup_cases p n s with e | e <;> rw [e]
  · exact selected
  · exact selected.trans (.applySetup p _)

theorem AllFit.deferredSetup (p : Player) (before : BreathState) (s : State) : AllFit s (deferredSetup p before s) := by
  rcases deferredSetup_cases p before s with e | e <;> rw [e]
  · exact .refl s
  · exact .applySetup p s

theorem AllFit.preempt (hit : PlayerState → Bool) {s u : State} (players : ∀ p, u.player p = s.player p) :
    AllFit s (preempt hit u) :=
  AllFit.trans (.of_players players) (foldl_extends AllFit _ .refl .trans _ u fun t p _ => by
    split
    · exact .endLearn p _ _ t
    · exact .refl t)

theorem AllFit.requestLearn (p : Player) (index biased : BitVec 7) (s : State) :
    AllFit s (requestLearn p index biased s) := by
  have accepted (slot : ChartSlot) (e : EntryId) : AllFit s (acceptLearn p slot e biased s) :=
    .of_player (fun q => State.player_modPlayer _ p q _) (.of_eq rfl rfl rfl rfl rfl)
  unfold Machine.requestLearn
  dsimp only
  split_ifs
  · exact .placeReply ..
  · exact .placeReply ..
  · split
    · split_ifs
      · exact accepted _ _
      · exact .placeReply ..
    · exact accepted _ _

/-! ### Links and frames -/

theorem AllFit.leaveUp (p : Player) (cause : LostCause) (after : LinkState) (s : State) :
    AllFit s (leaveUp p cause after s) :=
  .of_player (leaveUp_player p cause after s) 
    (((QueuesFit.of_le (a := s.player p) (b := (s.player p).left after) le_rfl le_rfl (Nat.zero_le _) rfl
      rfl).queuedAll _).learnPlaced _ _)

theorem AllFit.loseLink (p : Player) (s : State) : AllFit s (loseLink p s) :=
  ((AllFit.raiseFlag s p linkLost).trans (.modPlayer (.of_le le_rfl (Nat.zero_le _) le_rfl rfl rfl))).trans (.leaveUp ..)

theorem AllFit.writeLinkEnable (p : Player) (v : Byte) (s : State) : AllFit s (writeLinkEnable p v s) := by
  unfold Machine.writeLinkEnable disableLink enableLink
  dsimp only
  split_ifs
  · exact .refl s
  · exact .modPlayer (.of_eq rfl rfl rfl rfl rfl)
  · exact AllFit.trans (.modPlayer (.of_eq rfl rfl rfl rfl rfl)) (.leaveUp ..)
  · exact .modPlayer (.of_eq rfl rfl rfl rfl rfl)

theorem AllFit.resetLink (p : Player) (s : State) : AllFit s (resetLink p s) := by
  unfold Machine.resetLink
  dsimp only
  have reset : AllFit s (s.modPlayer p PlayerState.resetReceiver) :=
    .modPlayer (.of_le le_rfl (Nat.zero_le _) le_rfl rfl rfl)
  have played (t : State) : AllFit t (t.modPlayer p PlayerState.resetPlaying) := .modPlayer (.of_eq rfl rfl rfl rfl rfl)
  split_ifs
  · exact (reset.trans (.leaveUp ..)).trans (played _)
  · exact reset.trans (played _)

theorem AllFit.checkSequence (p : Player) (seq : BitVec 4) (s : State) : AllFit s (checkSequence p seq s) := by
  unfold Machine.checkSequence
  dsimp only
  have seen : AllFit s (s.modPlayer p fun ps => { ps with seqRef := some seq }) := .modPlayer (.of_eq rfl rfl rfl rfl rfl)
  split
  · exact seen
  · split_ifs
    · exact seen
    · exact seen.trans (.raiseFlag ..)

theorem AllFit.bringUp (p : Player) (cause : Nat) (seq : BitVec 4) (s : State) : AllFit s (bringUp p cause seq s) := by
  unfold Machine.bringUp
  exact AllFit.trans (.modPlayer (.of_eq rfl rfl rfl rfl rfl)) (.report ..)

theorem AllFit.resolverStages (p : Player) (f : SenseFields) (r : BreathReport) (s : State) :
    AllFit s (resolverStages p f r s) := by
  unfold Machine.resolverStages
  dsimp only
  have keyed (onset : Bool) : AllFit s (keyStages p f onset s) := by
    unfold keyStages
    exact .modPlayer (.of_eq rfl rfl rfl rfl rfl)
  have bent (t : State) : AllFit t (bendStage p f.bite t) := by
    unfold bendStage
    exact .modPlayer (.of_eq rfl rfl rfl rfl rfl)
  split_ifs
  · exact ((keyed _).trans (.completeLearn p _)).trans (bent _)
  · exact (keyed _).trans (bent _)

theorem AllFit.acceptSense (p : Player) (seq : BitVec 4) (f : SenseFields) (s : State) :
    AllFit s (acceptSense p seq f s) := by
  have selected : AllFit s (frameSelected p f s) :=
    AllFit.trans (.modPlayer (f := fun ps => { ps with silence := some 0 }) (.of_eq rfl rfl rfl rfl rfl)) (.selectSetup ..)
  have fronted (t : State) : AllFit t (frontEnd p f.breath.toNat t) := by
    unfold frontEnd
    exact .modPlayer (.of_eq rfl rfl rfl rfl rfl)
  have resolved : AllFit s (frameResolved p f s) := (selected.trans (fronted _)).trans (.resolverStages ..)
  have decided : AllFit s (frameDecided p f s) := resolved.trans (.decide ..)
  have pitched (t : State) : AllFit t (updatePitch p t) := .foldl_modVoice ..
  have levelled (t : State) : AllFit t (handOff p t) := .foldl_modVoice ..
  have handed : AllFit s (frameHanded p f s) := ((decided.trans (pitched _)).trans (.latchButton ..)).trans (levelled _)
  rw [acceptSense_eq, openSlot_eq]
  exact (handed.trans (.deferredSetup ..)).trans (.modPlayer (.of_eq rfl rfl rfl rfl rfl))

theorem AllFit.takeSense (p : Player) (f : FrameBody) (s : State) : AllFit s (takeSense p f s) := by
  unfold Machine.takeSense
  split
  · exact .refl s
  · exact (AllFit.checkSequence p _ s).trans (.acceptSense ..)
  · exact (AllFit.bringUp p 2 _ s).trans (.acceptSense ..)

theorem AllFit.takeHello (p : Player) (f : FrameBody) (s : State) : AllFit s (takeHello p f s) := by
  unfold Machine.takeHello
  have counted (t : State) : AllFit t (takeKeyCount p f.c1 t) := by
    unfold takeKeyCount
    exact .modPlayer (.of_eq rfl rfl rfl rfl rfl)
  split
  · exact (AllFit.checkSequence p _ s).trans (counted _)
  · exact (counted s).trans (.bringUp ..)
  · exact (counted s).trans (.bringUp ..)

theorem AllFit.takeLearnReq (p : Player) (f : FrameBody) (s : State) : AllFit s (takeLearnReq p f s) := by
  unfold Machine.takeLearnReq
  split
  · exact .refl s
  · exact (AllFit.checkSequence p _ s).trans (.requestLearn ..)
  · exact (AllFit.report ..).trans (.placeReply ..)

/-! ### Ends of fades and PANIC -/

theorem AllFit.freeVoice (v : VoiceId) (s : State) : AllFit s (freeVoice v s) := by
  refine ⟨fun q => ?_⟩
  rw [freeVoice_player]
  split
  · exact .of_eq rfl rfl rfl rfl rfl
  · exact .refl _

theorem AllFit.takeFadeEnd (v : VoiceId) (s : State) : AllFit s (takeFadeEnd v s) := by
  unfold Machine.takeFadeEnd
  split
  · exact .freeVoice v s
  · split
    · exact .freeVoice v s
    · refine ⟨fun q => ?_⟩
      rw [handOver_player]
      split
      · exact .of_eq rfl rfl rfl rfl rfl
      · exact .refl _

theorem AllFit.panicAll (s : State) : AllFit s (panicAll s) := by
  refine ⟨fun p => ?_⟩
  rw [panicAll_player, panicRecord]
  refine QueuesFit.queuedAll ?_ _
  exact .of_le le_rfl le_rfl (Nat.zero_le _) rfl rfl

/-! ### Every operation -/

theorem QueuesBounded.congr {s t : State} (h : QueuesBounded s) (fit : AllFit s t) : QueuesBounded t where
  events p := (fit.player p).events (h.events p)
  replies p := (fit.player p).replies (h.replies p)
  latch p := (fit.player p).latch (h.latch p)
  reserves := by simpa only [(fit.player _).reserve] using h.reserves
  ceilings p := by
    rw [(fit.player p).ceiling]
    exact h.ceilings p

/-- The bound of a reserve write, with the other three reserves as a sum (R83). -/
theorem reserveOf_eq (s : State) (p : Player) (v : Nat) :
    reserveOf s p v = min (min v 64) (64 - ∑ q ∈ Finset.univ.erase p, (s.player q).reserve) := by
  have others : (allPlayers.filter (· ≠ p)).toFinset = Finset.univ.erase p := by
    ext q
    simp [mem_allPlayers]
  rw [reserveOf, ← others, List.sum_toFinset _ (allPlayers_nodup.filter _)]

/-- A reserve write keeps the sum of the reserves within the pool (R83). -/
theorem writeReserve_sum_le {s : State} (h : ∑ q, (s.player q).reserve ≤ 64) (p : Player) (v : Byte) :
    ∑ q, ((writeReserve p v s).player q).reserve ≤ 64 := by
  have written : ((writeReserve p v s).player p).reserve ≤ 64 - ∑ q ∈ Finset.univ.erase p, (s.player q).reserve := by
    rw [writeReserve, State.player_modPlayer_self]
    exact (reserveOf_eq s p v.toNat).trans_le (min_le_right _ _)
  have others : ∑ q ∈ Finset.univ.erase p, ((writeReserve p v s).player q).reserve =
      ∑ q ∈ Finset.univ.erase p, (s.player q).reserve :=
    Finset.sum_congr rfl fun q hq => by
      rw [writeReserve, State.player_modPlayer_other _ (Finset.ne_of_mem_erase hq)]
  have before := Finset.add_sum_erase Finset.univ (fun q => (s.player q).reserve) (Finset.mem_univ p)
  rw [← Finset.add_sum_erase _ _ (Finset.mem_univ p), others]
  omega

theorem QueuesBounded.reset : QueuesBounded State.reset where
  events p := by rw [State.reset_player]; decide
  replies p := by rw [State.reset_player]; decide
  latch p := by rw [State.reset_player]; decide
  reserves := by simp only [State.reset_player]; decide
  ceilings p := by rw [State.reset_player]; decide

theorem Effects.queuesBounded {s t : State} (h : QueuesBounded s) (effects : Effects s t) : QueuesBounded t := by
  cases effects with
  | idle => exact h
  | powerOn => exact QueuesBounded.reset.congr (.of_players fun _ => rfl)
  | samplePeriod =>
    refine h.congr ⟨fun p => ?_⟩
    rw [renderPeriod_player, PlayerState.countSilence_eq]
    exact .of_eq rfl rfl rfl rfl rfl
  | fadeEnd v => exact h.congr (.takeFadeEnd v s)
  | releaseEnd v => exact h.congr (.freeVoice v s)
  | learnTimeout p => exact h.congr (.endLearn ..)
  | silenceTimeout p => exact h.congr (.loseLink p s)
  | sense p f => exact h.congr (AllFit.trans (.modPlayer (.of_eq rfl rfl rfl rfl rfl)) (.takeSense p f _))
  | hello p f => exact h.congr (AllFit.trans (.modPlayer (.of_eq rfl rfl rfl rfl rfl)) (.takeHello p f _))
  | learnReq p f => exact h.congr (AllFit.trans (.modPlayer (.of_eq rfl rfl rfl rfl rfl)) (.takeLearnReq p f _))
  | keeps p k =>
    obtain ⟨ps, kept, rfl⟩ := k
    have frame := kept.frame
    exact h.congr (.modPlayer (.of_le kept.events kept.replies (by rw [frame]) (by rw [frame]) (by rw [frame])))
  | softReset =>
    refine ⟨fun p => ?_, fun p => ?_, fun p => ?_, ?_, fun p => ?_⟩
    · rw [softResetAll_player]; exact Nat.zero_le _
    · rw [softResetAll_player]; exact Nat.zero_le _
    · rw [softResetAll_player]; exact Nat.zero_le _
    · simpa only [softResetAll_player, PlayerState.softReset] using h.reserves
    · rw [softResetAll_player]; exact h.ceilings p
  | panic => exact h.congr (.panicAll s)
  | restore n => exact h.congr (.preempt _ fun _ => rfl)
  | linkReset p => exact h.congr (.resetLink p s)
  | linkEnable p v => exact h.congr (.writeLinkEnable p v s)
  | entryFlags n e hold v => exact h.congr (.preempt _ fun _ => rfl)
  | reserve p v =>
    have others (q : Player) : ∃ n, (writeReserve p v s).player q = { s.player q with reserve := n } := by
      rw [writeReserve, State.player_modPlayer]
      split
      · next hq => subst hq; exact ⟨_, rfl⟩
      · exact ⟨_, rfl⟩
    refine ⟨fun q => ?_, fun q => ?_, fun q => ?_, writeReserve_sum_le h.reserves p v, fun q => ?_⟩ <;>
      obtain ⟨n, hn⟩ := others q <;> rw [hn]
    · exact h.events q
    · exact h.replies q
    · exact h.latch q
    · exact h.ceilings q
  | ceiling p v =>
    have others (q : Player) : ∃ n, (1 ≤ n ∧ n ≤ 64) ∧
        (s.modPlayer p fun ps => { ps with ceiling := clampNat 1 64 v.toNat }).player q =
          { s.player q with ceiling := n } := by
      rw [State.player_modPlayer]
      split
      · next hq => subst hq; exact ⟨_, by unfold clampNat; split_ifs <;> omega, rfl⟩
      · exact ⟨_, h.ceilings q, rfl⟩
    refine ⟨fun q => ?_, fun q => ?_, fun q => ?_, ?_, fun q => ?_⟩
    · obtain ⟨n, -, hn⟩ := others q; rw [hn]; exact h.events q
    · obtain ⟨n, -, hn⟩ := others q; rw [hn]; exact h.replies q
    · obtain ⟨n, -, hn⟩ := others q; rw [hn]; exact h.latch q
    · refine le_of_eq_of_le (Finset.sum_congr rfl fun q _ => ?_) h.reserves
      obtain ⟨n, -, hn⟩ := others q; rw [hn]
    · obtain ⟨n, ranged, hn⟩ := others q; rw [hn]; exact ranged
  | table w => cases w <;> exact h.congr (.of_players fun _ => rfl)

/-- Settles O7: no operation lets a queue or a stack outgrow its size, and the two desk writes are bounded. -/
theorem stepKeepsQueuesBounded : Obligations.StepKeepsQueuesBounded :=
  fun _ _ => step_keeps (fun s t h => by rw [h]; exact fun k => k.congr (.of_players fun _ => rfl))
    fun _ _ => Effects.queuesBounded

end Sys2Proof.Machine


/-!
What the commands of one player leave of the others: a steal takes voices from them, and nothing else reaches them
(R96, R97, R113).
-/

namespace Sys2Proof.Machine

/-! ### Records of other players -/

theorem RobbedOnly.refl (a : PlayerState) : RobbedOnly a a := ⟨rfl, rfl, 0, by simp, by decide⟩

theorem RobbedOnly.trans {a b c : PlayerState} (h : RobbedOnly a b) (k : RobbedOnly b c) : RobbedOnly a c := by
  obtain ⟨hb, hn, m, hm, hz⟩ := h
  obtain ⟨kb, kn, n, kn', kz⟩ := k
  refine ⟨?_, kn.trans hn, m ||| n, by rw [kn', hm, BitVec.or_assoc], ?_⟩
  · rw [kb, hb]
  · rw [BitVec.and_comm, BitVec.and_or_distrib_left, BitVec.and_comm, hz, BitVec.and_comm, kz]
    decide

/-- An update that leaves status A and everything but what a steal touches alone. -/
theorem RobbedOnly.of_eq {a b : PlayerState}
    (h : b = { a with note := b.note, latch := b.latch, held := b.held, replies := b.replies, events := b.events })
    (note : (b.note.map fun n => { n with binding := [] }) = a.note.map fun n => { n with binding := [] }) :
    RobbedOnly a b := by
  have status : b.statusA = a.statusA := by rw [h]
  exact ⟨by rw [h], note, 0, by simp [status], by decide⟩

theorem RobbedOnly.queued (a : PlayerState) (e : EventRecord) : RobbedOnly a (a.queued e) := by
  rcases a.queued_cases e with ⟨_, h⟩ | ⟨_, h⟩ <;> rw [h]
  · exact .of_eq rfl rfl
  · exact ⟨rfl, rfl, 0x40, rfl, by decide⟩

theorem RobbedOnly.placed (a : PlayerState) (r : Reply) : RobbedOnly a (a.placed r) := by
  rcases a.placed_cases r with ⟨_, h⟩ | ⟨_, h⟩ <;> rw [h]
  · exact .of_eq rfl rfl
  · exact ⟨rfl, rfl, 0x80, rfl, by decide⟩

theorem RobbedOnly.told {a b : PlayerState} (h : RobbedOnly a b) (s : State) (v : VoiceId) (u : VoiceUse)
    (d : Option LatchEntry) : RobbedOnly a (b.told s v u d) := by
  unfold PlayerState.told
  cases d with
  | none => exact (h.trans (.queued b _)).trans (.placed _ _)
  | some e => exact (((h.trans (.queued b _)).trans (.placed _ _)).trans (.queued _ _)).trans (.placed _ _)

theorem RobbedOnly.detached (a : PlayerState) (v : VoiceId) (st : VoiceState) (held : Nat) :
    RobbedOnly a { a.detached v st with held := held } := by
  cases st with
  | sounding => exact .of_eq rfl (by simp [PlayerState.detached, Function.comp_def])
  | latched | free | releasing | fading => exact .of_eq rfl rfl

/-! ### States -/

/-- The players other than p only lose voices. -/
structure RobbedOthers (p : Player) (s t : State) : Prop where
  player : ∀ q, q ≠ p → RobbedOnly (s.player q) (t.player q)

theorem RobbedOthers.refl (p : Player) (s : State) : RobbedOthers p s s := ⟨fun _ _ => .refl _⟩

theorem RobbedOthers.trans {p : Player} {s t u : State} (h : RobbedOthers p s t) (k : RobbedOthers p t u) :
    RobbedOthers p s u := ⟨fun q hq => (h.player q hq).trans (k.player q hq)⟩

/-- Only p's record is rewritten. -/
theorem RobbedOthers.of_player {p : Player} {s t : State} {ps : PlayerState}
    (players : ∀ q, t.player q = if q = p then ps else s.player q) : RobbedOthers p s t :=
  ⟨fun q hq => by rw [players, if_neg hq]; exact .refl _⟩

theorem RobbedOthers.modPlayer (p : Player) (s : State) (f : PlayerState → PlayerState) :
    RobbedOthers p s (s.modPlayer p f) := .of_player (s.player_modPlayer p · f)

theorem RobbedOthers.of_players {p : Player} {s t : State} (h : ∀ q, t.player q = s.player q) : RobbedOthers p s t :=
  ⟨fun q _ => by rw [h]; exact .refl _⟩

theorem RobbedOthers.foldl_modVoice (p : Player) (f : Voice → Voice) (l : List VoiceId) (s : State) :
    RobbedOthers p s (l.foldl (fun t v => t.modVoice v f) s) := .of_players fun _ => foldl_modVoice_player ..

theorem RobbedOthers.report (p : Player) (k : EventKind) (tag : BitVec 8) (note : Nat) (fl : Byte) (value : Nat)
    (s : State) : RobbedOthers p s (report p k tag note fl value s) := .of_player (report_player s p k tag note fl value)

/-! ### Notes and the pool -/

theorem RobbedOthers.stealVoice (v : VoiceId) (p : Player) (tag : BitVec 8) (l : LayerId) (s : State) :
    RobbedOthers p s (stealVoice v p tag l s) := by
  cases h : (s.voice v).use with
  | none => rw [stealVoice_of_none v p tag l s h]; exact .refl p s
  | some u =>
    have seized : RobbedOthers p s (seizeVoice v u p tag l s) := by
      refine ⟨fun q _ => ?_⟩
      rw [seizeVoice_player]
      split
      · exact .detached ..
      · exact .of_eq rfl rfl
    refine ⟨fun q hq => ?_⟩
    rw [stealVoice_player v p tag l u s h]
    split
    · exact (seized.player q hq).told ..
    · exact seized.player q hq

theorem RobbedOthers.answer (p : Player) (note : Note) (l : LayerId) (s : State) (a : Answer) :
    RobbedOthers p s (a.apply p note l s) := by
  cases a with
  | grant v rest => exact .of_player (grantVoice_player v rest p note l s)
  | steal v => exact .stealVoice v p note.tag l s
  | deny => exact .of_player (denyLayer_player p note.number l s)

theorem RobbedOthers.layerRequest (p : Player) (note : Note) (l : LayerId) (s : State) :
    RobbedOthers p s (layerRequest p note l s) := by
  unfold Machine.layerRequest bind
  exact (RobbedOthers.answer p note l s _).trans (.modPlayer ..)

theorem RobbedOthers.layerRequests (p : Player) (note : Note) (ls : List LayerId) (s : State) :
    RobbedOthers p s (ls.foldl (fun t l => Machine.layerRequest p note l t) s) :=
  foldl_extends (RobbedOthers p) _ (.refl p) .trans ls s fun t l _ => .layerRequest p note l t

theorem RobbedOthers.onsetDecision (p : Player) (n : Nat) (fl : RangeFlag) (s : State) :
    RobbedOthers p s (onsetDecision p n fl s) := by
  have begun : RobbedOthers p s (beginNote p (newNote s p n fl) s) := .modPlayer ..
  exact (begun.trans (.layerRequests p (newNote s p n fl) _ _)).trans ((RobbedOthers.report p _ _ _ _ _ _).trans
    (foldl_extends (RobbedOthers p) _ (.refl p) .trans _ _ fun t _ _ => .report p _ _ _ _ _ t))

theorem RobbedOthers.changeDecision (p : Player) (n : Nat) (fl : RangeFlag) (s : State) :
    RobbedOthers p s (changeDecision p n fl s) := by
  unfold Machine.changeDecision
  split
  · exact .refl p s
  · exact ((RobbedOthers.foldl_modVoice p _ _ s).trans (.modPlayer ..)).trans (.report ..)

theorem RobbedOthers.offDecision (p : Player) (r : OffReason) (s : State) : RobbedOthers p s (offDecision p r s) :=
  .of_player (offDecision_player p r s)

theorem RobbedOthers.decide (p : Player) (r : BreathReport) (res : Resolution) (s : State) :
    RobbedOthers p s (decide p r res s) := by
  unfold Machine.decide
  cases decisionFor r (s.player p).breath res (s.activeSetup p).policy (s.player p).note with
  | none => exact .refl p s
  | onset n f => exact .onsetDecision p n f s
  | change n f => exact .changeDecision p n f s
  | off reason => exact .offDecision p reason s

theorem RobbedOthers.clearStack (p : Player) (r : Nat) (s : State) : RobbedOthers p s (clearStack p r s) :=
  .of_player (clearStack_player p r s)

theorem makeRoom_player_other {p q : Player} (other : q ≠ p) (s : State) : (makeRoom p s).player q = s.player q := by
  rcases makeRoom_cases p s with ⟨-, e⟩ | ⟨bottom, es, -, -, e⟩ <;> rw [e]
  rw [report_player_other _ _ _ _ _ _ _ other, State.player_modPlayer_other _ other, releaseEntry_player]

theorem RobbedOthers.press (p : Player) (s : State) : RobbedOthers p s (press p s) := by
  have latched (note : Note) : RobbedOthers p s (latchNote p note (makeRoom p s)) :=
    ⟨fun q hq => by rw [latchNote_player, if_neg hq, makeRoom_player_other hq]; exact .refl _⟩
  unfold Machine.press
  split
  · split
    · exact .refl p s
    · exact (latched _).trans (.onsetDecision ..)
  · exact .refl p s
  · exact .clearStack p 1 s
  · exact .clearStack p 1 s
  · exact .clearStack p 1 s
  · exact .refl p s

theorem RobbedOthers.latchButton (p : Player) (down : Bool) (s : State) : RobbedOthers p s (latchButton p down s) := by
  unfold Machine.latchButton
  dsimp only
  split_ifs
  · exact (RobbedOthers.modPlayer p s _).trans (.press p _)
  · exact .modPlayer ..

/-! ### Learns and setups -/

theorem RobbedOthers.completeLearn (p : Player) (s : State) : RobbedOthers p s (completeLearn p s) := by
  cases pending : (s.player p).learn with
  | none => rw [Machine.completeLearn, pending]; exact .refl p s
  | some r => exact .of_player (completeLearn_player pending)

theorem RobbedOthers.applySetup (p : Player) (s : State) : RobbedOthers p s (applySetup p s) :=
  .of_player (applySetup_player p s)

theorem RobbedOthers.selectSetup (p : Player) (n : SetupId) (s : State) : RobbedOthers p s (selectSetup p n s) := by
  rcases selectSetup_cases p n s with e | e <;> rw [e]
  · exact .modPlayer ..
  · exact (RobbedOthers.modPlayer p s _).trans (.applySetup p _)

theorem RobbedOthers.deferredSetup (p : Player) (before : BreathState) (s : State) :
    RobbedOthers p s (deferredSetup p before s) := by
  rcases deferredSetup_cases p before s with e | e <;> rw [e]
  · exact .refl p s
  · exact .applySetup p s

/-! ### Frames -/

theorem RobbedOthers.checkSequence (p : Player) (seq : BitVec 4) (s : State) :
    RobbedOthers p s (checkSequence p seq s) := by
  unfold Machine.checkSequence
  dsimp only
  split
  · exact .modPlayer ..
  · split_ifs
    · exact .modPlayer ..
    · exact (RobbedOthers.modPlayer p s _).trans (.modPlayer ..)

theorem RobbedOthers.bringUp (p : Player) (cause : Nat) (seq : BitVec 4) (s : State) :
    RobbedOthers p s (bringUp p cause seq s) := (RobbedOthers.modPlayer p s _).trans (.report ..)

theorem frontEnd_player (p : Player) (raw : Nat) (s : State) (q : Player) :
    (frontEnd p raw s).player q =
      if q = p then
        { s.player p with
          zeroOffset := (s.player p).frameZero raw, capturePending := false,
          breath := (breathStep (s.activeSetup p) ((s.player p).netPressure raw) (s.player p).breath).1,
          level := smooth (s.activeSetup p).smoothing (s.player p).level
            (curveLevel s.curves[(s.activeSetup p).curve] ((s.player p).netPressure raw)) }
      else s.player q := State.player_modPlayer ..

theorem keyStages_player (p : Player) (f : SenseFields) (onset : Bool) (s : State) (q : Player) :
    (keyStages p f onset s).player q =
      if q = p then
        trillFrame (s.activeSetup p) f.trill
          (settle (s.activeSetup p) (f.keys &&& (s.activeSetup p).keyMask) onset (s.player p))
      else s.player q := State.player_modPlayer ..

theorem bendStage_player (p : Player) (bite : BitVec 7) (s : State) (q : Player) :
    (bendStage p bite s).player q =
      if q = p then
        { s.player p with bend := biteBend (s.activeSetup p).biteRest (s.activeSetup p).bendDepth bite.toNat }
      else s.player q := State.player_modPlayer ..

theorem RobbedOthers.resolverStages (p : Player) (f : SenseFields) (r : BreathReport) (s : State) :
    RobbedOthers p s (resolverStages p f r s) := by
  have keyed (onset : Bool) : RobbedOthers p s (keyStages p f onset s) := .of_player (keyStages_player p f onset s)
  have bent (t : State) : RobbedOthers p t (bendStage p f.bite t) := .of_player (bendStage_player p f.bite t)
  unfold Machine.resolverStages
  dsimp only
  split_ifs
  · exact ((keyed _).trans (.completeLearn p _)).trans (bent _)
  · exact (keyed _).trans (bent _)

theorem RobbedOthers.openSlot (p : Player) (seq : BitVec 4) (ok : Bool) (s : State) :
    RobbedOthers p s (openSlot p seq ok s) := by
  rw [openSlot_eq]
  exact .modPlayer ..

theorem RobbedOthers.frameResolved (p : Player) (f : SenseFields) (s : State) :
    RobbedOthers p s (frameResolved p f s) :=
  (((RobbedOthers.modPlayer p s _).trans (.selectSetup p _ _)).trans (.modPlayer ..)).trans (.resolverStages ..)

theorem RobbedOthers.frameHanded (p : Player) (f : SenseFields) (s : State) : RobbedOthers p s (frameHanded p f s) :=
  ((((RobbedOthers.frameResolved p f s).trans (.decide ..)).trans (.foldl_modVoice ..)).trans (.latchButton ..)).trans
    (.foldl_modVoice ..)

theorem RobbedOthers.acceptSense (p : Player) (seq : BitVec 4) (f : SenseFields) (s : State) :
    RobbedOthers p s (acceptSense p seq f s) :=
  ((RobbedOthers.frameHanded p f s).trans (.deferredSetup ..)).trans (.openSlot ..)

theorem RobbedOthers.takeSense (p : Player) (f : FrameBody) (s : State) : RobbedOthers p s (takeSense p f s) := by
  unfold Machine.takeSense
  split
  · exact .refl p s
  · exact (RobbedOthers.checkSequence p _ s).trans (.acceptSense ..)
  · exact (RobbedOthers.bringUp p 2 _ s).trans (.acceptSense ..)

end Sys2Proof.Machine


/-!
Link records and playing agree with the link (R11, R84, R149, R156, R158, R160), said of each player's record alone.
-/

namespace Sys2Proof.Machine

/-! ### Records -/

/-- One player's part of `LinkRecordsAgree` and `PlayingOnlyUp`. -/
structure LinkSound (ps : PlayerState) : Prop where
  silence : ps.silence ≠ none ↔ ps.link = .up
  seqRef : ps.seqRef ≠ none ↔ ps.link = .up
  count : ∀ n, ps.silence = some n → n ≤ 2400
  disabled : ps.enabled = false → ps.link = .down
  breathing : ps.breath = .breathing → ps.link = .up
  pending : ∀ n, ps.breath = .pending n → ps.link = .up
  note : ps.note ≠ none → ps.breath = .breathing

/-- The fields that `LinkSound` reads stay as they are, but for a note that may end. -/
structure LinkKept (a b : PlayerState) : Prop where
  link : b.link = a.link
  silence : b.silence = a.silence
  seqRef : b.seqRef = a.seqRef
  enabled : b.enabled = a.enabled
  breath : b.breath = a.breath
  note : b.note ≠ none → a.note ≠ none

theorem LinkSound.congr {a b : PlayerState} (h : LinkSound a) (k : LinkKept a b) : LinkSound b where
  silence := by rw [k.silence, k.link]; exact h.silence
  seqRef := by rw [k.seqRef, k.link]; exact h.seqRef
  count := by rw [k.silence]; exact h.count
  disabled := by rw [k.enabled, k.link]; exact h.disabled
  breathing := by rw [k.breath, k.link]; exact h.breathing
  pending := by rw [k.breath, k.link]; exact h.pending
  note current := by rw [k.breath]; exact h.note (k.note current)

theorem LinkKept.refl (a : PlayerState) : LinkKept a a := ⟨rfl, rfl, rfl, rfl, rfl, id⟩

theorem LinkKept.trans {a b c : PlayerState} (h : LinkKept a b) (k : LinkKept b c) : LinkKept a c where
  link := k.link.trans h.link
  silence := k.silence.trans h.silence
  seqRef := k.seqRef.trans h.seqRef
  enabled := k.enabled.trans h.enabled
  breath := k.breath.trans h.breath
  note := h.note ∘ k.note

theorem LinkKept.queuedAll {a b : PlayerState} (h : LinkKept a b) (l : List EventRecord) : LinkKept a (b.queuedAll l) :=
  h.trans (by constructor <;> simp)

theorem LinkKept.placed {a b : PlayerState} (h : LinkKept a b) (r : Reply) : LinkKept a (b.placed r) :=
  h.trans (by constructor <;> simp)

theorem LinkKept.learnPlaced {a b : PlayerState} (h : LinkKept a b) (learn : Option LearnRecord)
    (result : LearnResult) : LinkKept a (b.learnPlaced learn result) := by
  cases learn with
  | none => exact h
  | some r => exact h.placed _

/-- Playing leaves the link alone. -/
theorem PlayedOnly.linkKept {a b : PlayerState} (h : PlayedOnly a b) (note : b.note ≠ none → a.note ≠ none) :
    LinkKept a b := by
  obtain ⟨frame, -⟩ := h
  refine ⟨?_, ?_, ?_, ?_, ?_, note⟩ <;> rw [frame]

theorem RobbedOnly.linkKept {a b : PlayerState} (h : RobbedOnly a b) : LinkKept a b := by
  obtain ⟨frame, bare, -⟩ := h
  refine ⟨?_, ?_, ?_, ?_, ?_, fun current => ?_⟩
  · rw [frame]
  · rw [frame]
  · rw [frame]
  · rw [frame]
  · rw [frame]
  · intro ended
    rw [ended, Option.map_none, Option.map_eq_none_iff] at bare
    exact current bare

/-- A BREATHING player that plays may have a note. -/
theorem LinkSound.played {a b : PlayerState} (h : LinkSound a) (k : PlayedOnly a b)
    (note : b.note ≠ none → a.note ≠ none ∨ a.breath = .breathing) : LinkSound b := by
  by_cases breathing : a.breath = .breathing
  · have kept : LinkKept { a with note := b.note } b := by
      obtain ⟨frame, -⟩ := k
      refine ⟨?_, ?_, ?_, ?_, ?_, id⟩ <;> rw [frame]
    have noted : LinkSound { a with note := b.note } :=
      ⟨h.silence, h.seqRef, h.count, h.disabled, h.breathing, h.pending, fun _ => breathing⟩
    exact noted.congr kept
  · exact h.congr (k.linkKept fun current => (note current).resolve_right breathing)

/-- While the link is UP the breath state may move, as long as a note stands only while BREATHING. -/
theorem LinkSound.breathes {a b : PlayerState} (h : LinkSound a) (up : a.link = .up) (link : b.link = a.link)
    (silence : b.silence = a.silence) (seqRef : b.seqRef = a.seqRef) (enabled : b.enabled = a.enabled)
    (note : b.note ≠ none → b.breath = .breathing) : LinkSound b where
  silence := by rw [silence, link]; exact h.silence
  seqRef := by rw [seqRef, link]; exact h.seqRef
  count := by rw [silence]; exact h.count
  disabled := by rw [enabled, link]; exact h.disabled
  breathing _ := link.trans up
  pending _ _ := link.trans up
  note := note

/-- The record of a link that leaves UP, or of one that is down. -/
theorem LinkSound.of_quiet {ps : PlayerState} (link : ps.link ≠ .up) (silence : ps.silence = none)
    (seqRef : ps.seqRef = none) (disabled : ps.enabled = false → ps.link = .down)
    (breath : ps.breath = .quiet ∨ ps.breath = .muted) (note : ps.note = none) : LinkSound ps where
  silence := by simp [silence, link]
  seqRef := by simp [seqRef, link]
  count := by simp [silence]
  disabled := disabled
  breathing b := by simp [b] at breath
  pending n b := by simp [b] at breath
  note current := absurd note current

theorem LinkSound.not_playing {ps : PlayerState} (h : LinkSound ps) (link : ps.link ≠ .up) :
    (ps.breath = .quiet ∨ ps.breath = .muted) ∧ ps.note = none := by
  have quiet : ps.breath = .quiet ∨ ps.breath = .muted := by
    cases b : ps.breath with
    | quiet => exact .inl rfl
    | muted => exact .inr rfl
    | pending n => exact absurd (h.pending n b) link
    | breathing => exact absurd (h.breathing b) link
  refine ⟨quiet, ?_⟩
  by_contra current
  rw [h.note current] at quiet
  simp at quiet

theorem LinkSound.enabled_of_up {ps : PlayerState} (h : LinkSound ps) (up : ps.link = .up) : ps.enabled = true := by
  by_contra off
  rw [h.disabled (by simpa using off)] at up
  cases up

theorem LinkSound.countSilence {ps : PlayerState} (h : LinkSound ps) : LinkSound ps.countSilence := by
  unfold PlayerState.countSilence
  split
  · refine ⟨?_, h.seqRef, fun m counted => ?_, h.disabled, h.breathing, h.pending, h.note⟩
    · simpa using h.silence
    · obtain ⟨n, -, rfl⟩ := Option.map_eq_some_iff.1 counted
      exact min_le_right _ _
  · exact h

/-! ### Learns and setups leave the link -/

theorem LinkKept.of_player {s t : State} {p : Player} {ps : PlayerState}
    (players : ∀ q, t.player q = if q = p then ps else s.player q) (kept : LinkKept (s.player p) ps) (q : Player) :
    LinkKept (s.player q) (t.player q) := by
  rw [players]
  split
  · next hq => exact hq ▸ kept
  · exact .refl _

theorem LinkKept.endLearn (p : Player) (result : LearnResult) (reply : Bool) (s : State) :
    ∀ q, LinkKept (s.player q) ((endLearn p result reply s).player q) :=
  .of_player (endLearn_player p result reply s)
    ((LinkKept.queuedAll (a := s.player p) (b := { s.player p with learn := none }) ⟨rfl, rfl, rfl, rfl, rfl, id⟩
      _).learnPlaced _ _)

theorem LinkKept.completeLearn (p : Player) (s : State) (q : Player) :
    LinkKept (s.player q) ((completeLearn p s).player q) := by
  cases pending : (s.player p).learn with
  | none => rw [Machine.completeLearn, pending]; exact .refl _
  | some r =>
    exact .of_player (completeLearn_player pending)
      ((LinkKept.queuedAll (a := s.player p) (b := { s.player p with learn := none }) ⟨rfl, rfl, rfl, rfl, rfl, id⟩
        [_]).placed _) q

theorem LinkKept.applySetup (p : Player) (s : State) :
    ∀ q, LinkKept (s.player q) ((applySetup p s).player q) :=
  .of_player (applySetup_player p s)
    ((LinkKept.queuedAll (a := s.player p) (b := { s.player p with active := (s.player p).selected, learn := none })
      ⟨rfl, rfl, rfl, rfl, rfl, id⟩ _).learnPlaced _ _)

theorem LinkKept.selectSetup (p : Player) (n : SetupId) (s : State) (q : Player) :
    LinkKept (s.player q) ((selectSetup p n s).player q) := by
  have selected : LinkKept (s.player q) ((s.modPlayer p fun ps => { ps with selected := n }).player q) :=
    .of_player (s.player_modPlayer p · _) ⟨rfl, rfl, rfl, rfl, rfl, id⟩ q
  rcases selectSetup_cases p n s with e | e <;> rw [e]
  · exact selected
  · exact selected.trans (.applySetup p _ q)

theorem LinkKept.deferredSetup (p : Player) (before : BreathState) (s : State) (q : Player) :
    LinkKept (s.player q) ((deferredSetup p before s).player q) := by
  rcases deferredSetup_cases p before s with e | e <;> rw [e]
  · exact .refl _
  · exact .applySetup p s q

/-! ### States -/

/-- Every player's record agrees with its link. -/
structure AllLinked (s : State) : Prop where
  player : ∀ p, LinkSound (s.player p)

theorem AllLinked.of_claims {s : State} (h : LinkRecordsAgree s) (k : PlayingOnlyUp s) : AllLinked s :=
  ⟨fun p => ⟨h.silence p, h.seqRef p, h.count p, h.disabled p, k.breathing p, k.pending p, k.note p⟩⟩

theorem AllLinked.claims {s : State} (h : AllLinked s) : LinkRecordsAgree s ∧ PlayingOnlyUp s :=
  ⟨⟨fun p => (h.player p).silence, fun p => (h.player p).seqRef, fun p => (h.player p).count,
    fun p => (h.player p).disabled⟩,
   ⟨fun p => (h.player p).breathing, fun p => (h.player p).pending, fun p => (h.player p).note⟩⟩

section
variable {s : State} (h : AllLinked s)
include h

theorem AllLinked.of_player {t : State} {p : Player} {ps : PlayerState}
    (players : ∀ q, t.player q = if q = p then ps else s.player q) (sound : LinkSound ps) : AllLinked t := by
  refine ⟨fun q => ?_⟩
  rw [players]
  split
  · exact sound
  · exact h.player q

theorem AllLinked.modPlayer {p : Player} {f : PlayerState → PlayerState} (sound : LinkSound (f (s.player p))) :
    AllLinked (s.modPlayer p f) := h.of_player (s.player_modPlayer p · f) sound

theorem AllLinked.keep {p : Player} {f : PlayerState → PlayerState} (kept : LinkKept (s.player p) (f (s.player p))) :
    AllLinked (s.modPlayer p f) := h.modPlayer ((h.player p).congr kept)

theorem AllLinked.congr {t : State} (kept : ∀ p, LinkKept (s.player p) (t.player p)) : AllLinked t :=
  ⟨fun p => (h.player p).congr (kept p)⟩

theorem AllLinked.report (p : Player) (k : EventKind) (tag : BitVec 8) (note : Nat) (fl : Byte) (value : Nat) :
    AllLinked (report p k tag note fl value s) :=
  h.of_player (report_player s p k tag note fl value) ((h.player p).congr (LinkKept.refl _ |>.queuedAll [_]))

theorem AllLinked.placeReply (p : Player) (r : Reply) : AllLinked (placeReply p r s) :=
  h.of_player (placeReply_player s p r) ((h.player p).congr (LinkKept.refl _ |>.placed _))

/-- Playing of p that leaves its note, ends it, or begins one where it is BREATHING. -/
theorem AllLinked.plays {t : State} {p : Player} (sounds : SoundsOnly s t) (others : RobbedOthers p s t)
    (note : (t.player p).note ≠ none → (s.player p).note ≠ none ∨ (s.player p).breath = .breathing) : AllLinked t := by
  refine ⟨fun q => ?_⟩
  rcases eq_or_ne q p with rfl | other
  · exact (h.player q).played (sounds.2 q) note
  · exact (h.player q).congr (others.player q other).linkKept

/-! ### Notes, latches, learns and setups -/

theorem AllLinked.press (p : Player) : AllLinked (press p s) := by
  refine h.plays (.press p s) (.press p s) fun current => ?_
  unfold Machine.press at current
  split at current
  · next breathing _ => exact .inr breathing
  · next breathing _ => exact .inr breathing
  · exact .inl (by simpa [clearStack_player] using current)
  · exact .inl (by simpa [clearStack_player] using current)
  · exact .inl (by simpa [clearStack_player] using current)
  · exact .inl current

theorem AllLinked.latchButton (p : Player) (down : Bool) : AllLinked (latchButton p down s) := by
  have seen : AllLinked (s.modPlayer p fun ps => { ps with latchSeen := down }) := h.keep ⟨rfl, rfl, rfl, rfl, rfl, id⟩
  unfold Machine.latchButton
  dsimp only
  split_ifs
  · exact seen.press p
  · exact seen

theorem AllLinked.deferredSetup (p : Player) (before : BreathState) : AllLinked (deferredSetup p before s) :=
  h.congr (.deferredSetup p before s)

theorem AllLinked.preempt (hit : PlayerState → Bool) {u : State} (players : ∀ p, u.player p = s.player p) :
    AllLinked (preempt hit u) := by
  refine ⟨fun p => ?_⟩
  rw [preempt_player, players]
  split
  · unfold preemptedRecord
    rw [players]
    split
    · exact h.player p
    · exact (h.player p).congr ((LinkKept.queuedAll (a := s.player p) (b := { s.player p with learn := none })
        ⟨rfl, rfl, rfl, rfl, rfl, id⟩ [_]).placed _)
  · exact h.player p

theorem AllLinked.requestLearn (p : Player) (index biased : BitVec 7) : AllLinked (requestLearn p index biased s) := by
  have accepted (slot : ChartSlot) (e : EntryId) : AllLinked (acceptLearn p slot e biased s) :=
    h.of_player (fun q => State.player_modPlayer _ p q _) ((h.player p).congr ⟨rfl, rfl, rfl, rfl, rfl, id⟩)
  unfold Machine.requestLearn
  dsimp only
  split_ifs
  · exact h.placeReply ..
  · exact h.placeReply ..
  · split
    · split_ifs
      · exact accepted _ _
      · exact h.placeReply ..
    · exact accepted _ _

/-! ### Links -/

theorem AllLinked.checkSequence {p : Player} (up : (s.player p).link = .up) (seq : BitVec 4) :
    AllLinked (checkSequence p seq s) := by
  have old := h.player p
  have seen : AllLinked (s.modPlayer p fun ps => { ps with seqRef := some seq }) :=
    h.modPlayer ⟨old.silence, by simp [up], old.count, old.disabled, old.breathing, old.pending, old.note⟩
  unfold Machine.checkSequence
  dsimp only
  split
  · exact seen
  · split_ifs
    · exact seen
    · exact seen.keep ⟨rfl, rfl, rfl, rfl, rfl, id⟩

theorem AllLinked.bringUp {p : Player} (enabled : (s.player p).enabled = true) (cause : Nat) (seq : BitVec 4) :
    AllLinked (bringUp p cause seq s) := by
  have old := h.player p
  refine AllLinked.report (h.modPlayer ?_) ..
  exact ⟨by simp, by simp, fun n hn => Option.some.inj hn ▸ Nat.zero_le _, by simp [enabled], fun _ => rfl,
    fun _ _ => rfl, old.note⟩

end

/-- A link leaves UP, or is left down, whatever its record was. -/
theorem AllLinked.leaveUp {s t : State} (h : AllLinked s) {p : Player} (cause : LostCause) {after : LinkState}
    (others : ∀ q, q ≠ p → t.player q = s.player q) (down : after ≠ .up)
    (disabled : (t.player p).enabled = false → after = .down) : AllLinked (leaveUp p cause after t) := by
  have left : LinkSound ((t.player p).left after) := .of_quiet down rfl rfl disabled (.inl rfl) rfl
  refine ⟨fun q => ?_⟩
  rw [leaveUp_player]
  split
  · exact left.congr (((LinkKept.refl _).queuedAll _).learnPlaced _ _)
  · next other =>
    rw [others q other]
    exact h.player q

section
variable {s : State} (h : AllLinked s)
include h

theorem AllLinked.loseLink {p : Player} (due : silenceDue p s = true) : AllLinked (loseLink p s) := by
  have up : (s.player p).link = .up := by
    simp only [silenceDue, Bool.and_eq_true, decide_eq_true_eq] at due
    exact due.1
  have enabled := (h.player p).enabled_of_up up
  refine h.leaveUp _ (fun q other => ?_) (by decide) fun off => ?_
  · rw [State.player_modPlayer_other _ other, raiseFlag_player_other _ _ _ other]
  · rw [State.player_modPlayer_self, raiseFlag_player, if_pos rfl] at off
    exact absurd (enabled.symm.trans off) (by decide)

theorem AllLinked.writeLinkEnable (p : Player) (v : Byte) : AllLinked (writeLinkEnable p v s) := by
  unfold Machine.writeLinkEnable disableLink enableLink
  dsimp only
  have old := h.player p
  split_ifs with same on up
  · exact h
  · refine h.modPlayer ⟨old.silence, old.seqRef, old.count, fun off => ?_, old.breathing, old.pending, old.note⟩
    cases off
  · exact h.leaveUp _ (fun q other => State.player_modPlayer_other _ other _) (by decide) fun _ => rfl
  · obtain ⟨quiet, ended⟩ := old.not_playing up
    have silence : (s.player p).silence = none := by simpa [up] using old.silence
    have seqRef : (s.player p).seqRef = none := by simpa [up] using old.seqRef
    exact h.modPlayer (.of_quiet (by simp) silence seqRef (fun _ => rfl) quiet ended)

theorem AllLinked.resetLink (p : Player) : AllLinked (resetLink p s) := by
  unfold Machine.resetLink
  dsimp only
  have old := h.player p
  split_ifs with up
  · have left : AllLinked (Machine.leaveUp p .reset .down (s.modPlayer p PlayerState.resetReceiver)) :=
      h.leaveUp _ (fun q other => State.player_modPlayer_other _ other _) (by decide) fun _ => rfl
    exact left.keep ⟨rfl, rfl, rfl, rfl, rfl, id⟩
  · obtain ⟨quiet, ended⟩ := old.not_playing up
    have reset : AllLinked (s.modPlayer p PlayerState.resetReceiver) :=
      h.modPlayer (.of_quiet (by simp [PlayerState.resetReceiver]) rfl rfl (fun _ => rfl) quiet ended)
    exact reset.keep ⟨rfl, rfl, rfl, rfl, rfl, id⟩

end

/-! ### Frames -/

theorem breathStep_report_onset {st : Setup} {n : Nat} {b : BreathState} (h : (breathStep st n b).2 = .onset) :
    (breathStep st n b).1 = .breathing := by
  revert h
  unfold breathStep
  cases b <;> dsimp only <;> split_ifs <;> simp

theorem breathStep_stops {st : Setup} {n : Nat} (h : (breathStep st n .breathing).1 ≠ .breathing) :
    (breathStep st n .breathing).2 = .noteOff := by
  revert h
  unfold breathStep
  dsimp only
  split_ifs <;> simp

/-- A decision begins a note only where the player is BREATHING, and ends every other one (R85). -/
theorem decide_note {p : Player} {r : BreathReport} {s : State}
    (onset : r = .onset → (s.player p).breath = .breathing)
    (note : (s.player p).note ≠ none → (s.player p).breath = .breathing ∨ r = .noteOff) (res : Resolution)
    (current : ((decide p r res s).player p).note ≠ none) : (s.player p).breath = .breathing := by
  by_contra quiet
  have ended (o : OffReason) : ((offDecision p o s).player p).note = none := by simp [offDecision_player]
  unfold Machine.decide at current
  cases r with
  | onset => exact quiet (onset rfl)
  | noteOff =>
    cases h : (s.player p).note with
    | none => simp [decisionFor, h, Decision.take] at current
    | some n =>
      rw [h] at current
      exact current (ended .breath)
  | none =>
    have silent : (s.player p).note = none := by
      by_contra some
      exact (note some).elim quiet (by simp)
    rw [silent] at current
    cases res <;> simp [decisionFor, quiet, Decision.take, silent] at current

theorem resolverStages_linkKept (p : Player) (f : SenseFields) (r : BreathReport) (s : State) (q : Player) :
    LinkKept (s.player q) ((resolverStages p f r s).player q) := by
  have keyed (onset : Bool) : LinkKept (s.player q) ((keyStages p f onset s).player q) := by
    rw [keyStages_player]
    split
    · next hq => subst hq; exact ⟨rfl, rfl, rfl, rfl, rfl, id⟩
    · exact .refl _
  have bent (t : State) : LinkKept (t.player q) ((bendStage p f.bite t).player q) := by
    rw [bendStage_player]
    split
    · next hq => subst hq; exact ⟨rfl, rfl, rfl, rfl, rfl, id⟩
    · exact .refl _
  unfold resolverStages
  dsimp only
  split_ifs
  · exact ((keyed _).trans (.completeLearn p _ q)).trans (bent _)
  · exact (keyed _).trans (bent _)

section
variable {s : State} (h : AllLinked s) {p : Player}
include h

theorem AllLinked.frameSelected (up : (s.player p).link = .up) (f : SenseFields) : AllLinked (frameSelected p f s) := by
  have old := h.player p
  have heard : AllLinked (s.modPlayer p fun ps => { ps with silence := some 0 }) :=
    h.modPlayer ⟨by simp [up], old.seqRef, fun n zero => Option.some.inj zero ▸ Nat.zero_le _, old.disabled,
      old.breathing, old.pending, old.note⟩
  exact heard.congr (.selectSetup p f.setup _)

end

theorem checkSequence_link (p : Player) (seq : BitVec 4) (s : State) :
    ((checkSequence p seq s).player p).link = (s.player p).link := by
  unfold checkSequence
  dsimp only
  split
  · rw [State.player_modPlayer_self]
  · split_ifs
    · rw [State.player_modPlayer_self]
    · rw [raiseFlag_player, if_pos rfl, State.player_modPlayer_self]

theorem frameSelected_link (p : Player) (f : SenseFields) (s : State) :
    ((frameSelected p f s).player p).link = (s.player p).link :=
  (LinkKept.selectSetup p f.setup (s.modPlayer p fun ps => { ps with silence := some 0 }) p).link.trans
    (by rw [State.player_modPlayer_self])

section
variable {s : State} (h : AllLinked s) {p : Player}
include h

/-- The front end may move p's breath state; the decision then leaves a note only where p is BREATHING (R85). -/
theorem AllLinked.frameDecided (up : (s.player p).link = .up) (f : SenseFields) : AllLinked (frameDecided p f s) := by
  have selected := h.frameSelected up f
  have base := selected.player p
  have baseUp : ((Machine.frameSelected p f s).player p).link = .up := (frameSelected_link p f s).trans up
  have fronted := frontEnd_player p f.breath.toNat (Machine.frameSelected p f s)
  have resolved := resolverStages_linkKept p f (frameReport p f s) (frontEnd p f.breath.toNat (Machine.frameSelected p f s))
  have sounds := SoundsOnly.decide p (frameReport p f s) (resolution (frameResolved p f s) p f.contact)
    (frameResolved p f s)
  have others := RobbedOthers.decide p (frameReport p f s) (resolution (frameResolved p f s) p f.contact)
    (frameResolved p f s)
  refine ⟨fun q => ?_⟩
  rcases eq_or_ne q p with rfl | other
  · have kept := resolved q
    rw [fronted, if_pos rfl] at kept
    obtain ⟨frame, -⟩ := sounds.2 q
    have breath : ((Machine.frameDecided q f s).player q).breath = ((frameResolved q f s).player q).breath := by
      rw [Machine.frameDecided, frame]
    refine base.breathes baseUp ?_ ?_ ?_ ?_ fun current => breath.trans (decide_note (fun onset => ?_) (fun note => ?_) _ current)
    · rw [Machine.frameDecided, frame]; exact kept.link
    · rw [Machine.frameDecided, frame]; exact kept.silence
    · rw [Machine.frameDecided, frame]; exact kept.seqRef
    · rw [Machine.frameDecided, frame]; exact kept.enabled
    · exact kept.breath.trans (breathStep_report_onset onset)
    · have breathing := base.note (kept.note note)
      by_cases goesOn : (breathStep ((Machine.frameSelected q f s).activeSetup q)
          (((Machine.frameSelected q f s).player q).netPressure f.breath.toNat) .breathing).1 = .breathing
      · exact .inl (kept.breath.trans (by rw [← goesOn, ← breathing]))
      · refine .inr ?_
        rw [frameReport, breathReport, breathing]
        exact breathStep_stops goesOn
  · refine LinkSound.congr ?_ (others.player q other).linkKept
    refine LinkSound.congr ?_ (resolved q)
    rw [fronted, if_neg other]
    exact selected.player q

theorem AllLinked.acceptSense (up : (s.player p).link = .up) (seq : BitVec 4) (f : SenseFields) :
    AllLinked (acceptSense p seq f s) := by
  have decided := h.frameDecided up f
  have pitched : AllLinked (updatePitch p (Machine.frameDecided p f s)) :=
    decided.congr fun q => by rw [updatePitch_player]; exact .refl _
  have handed : AllLinked (frameHanded p f s) :=
    (pitched.latchButton p f.latch).congr fun q => by rw [frameHanded, handOff_player]; exact .refl _
  rw [acceptSense_eq, openSlot_eq]
  exact (handed.deferredSetup p _).keep ⟨rfl, rfl, rfl, rfl, rfl, id⟩

theorem AllLinked.takeSense (enabled : (s.player p).enabled = true) (f : FrameBody) : AllLinked (takeSense p f s) := by
  unfold Machine.takeSense
  split
  · exact h
  · next up => exact (h.checkSequence up f.seq).acceptSense ((checkSequence_link p _ s).trans up) _ _
  · exact (h.bringUp enabled 2 f.seq).acceptSense (by simp [Machine.bringUp]) _ _

theorem AllLinked.takeHello (enabled : (s.player p).enabled = true) (f : FrameBody) : AllLinked (takeHello p f s) := by
  have counted {t : State} (k : AllLinked t) : AllLinked (takeKeyCount p f.c1 t) := by
    unfold takeKeyCount
    exact k.keep ⟨rfl, rfl, rfl, rfl, rfl, id⟩
  have on : ((takeKeyCount p f.c1 s).player p).enabled = true := by
    rw [takeKeyCount, State.player_modPlayer_self]
    exact enabled
  unfold Machine.takeHello
  split
  · next up => exact counted (h.checkSequence up f.seq)
  · exact (counted h).bringUp on 1 f.seq
  · exact (counted h).bringUp on 1 f.seq

theorem AllLinked.takeLearnReq (f : FrameBody) : AllLinked (takeLearnReq p f s) := by
  unfold Machine.takeLearnReq
  split
  · exact h
  · next up => exact (h.checkSequence up f.seq).requestLearn p f.c1 f.c2
  · exact (h.report ..).placeReply ..

end

/-! ### Every operation -/

theorem AllLinked.panicAll {s : State} (h : AllLinked s) : AllLinked (panicAll s) := by
  refine ⟨fun p => ?_⟩
  have old := h.player p
  rw [panicAll_player, panicRecord]
  refine LinkSound.congr (a := { s.player p with
    note := none, latch := [], breath := if (s.player p).breath = .quiet then .quiet else .muted }) ?_
    ((LinkKept.refl _).queuedAll _)
  refine ⟨old.silence, old.seqRef, old.count, old.disabled, fun b => ?_, fun n b => ?_, fun current => absurd rfl current⟩
  · dsimp only at b
    split_ifs at b
  · dsimp only at b
    split_ifs at b

theorem Effects.allLinked {s t : State} (h : AllLinked s) (effects : Effects s t) : AllLinked t := by
  have cleared (p : Player) : AllLinked (clearReceived p s) := by
    unfold clearReceived
    exact h.keep ⟨rfl, rfl, rfl, rfl, rfl, id⟩
  have enabled {p : Player} {fr : Frame} (stands : frameStands s p fr = true) :
      ((clearReceived p s).player p).enabled = true := by
    rw [clearReceived, State.player_modPlayer_self]
    simp only [frameStands, Bool.and_eq_true] at stands
    exact stands.1
  have freed (v : VoiceId) : AllLinked (freeVoice v s) := h.congr fun q => by
    rw [freeVoice_player]
    split
    · exact ⟨rfl, rfl, rfl, rfl, rfl, id⟩
    · exact .refl _
  cases effects with
  | idle => exact h
  | powerOn =>
    refine ⟨fun p => ?_⟩
    exact (State.reset_player p).symm ▸ .of_quiet (by decide) rfl rfl (fun _ => rfl) (.inl rfl) rfl
  | samplePeriod => exact ⟨fun p => by rw [renderPeriod_player]; exact (h.player p).countSilence⟩
  | fadeEnd v =>
    unfold takeFadeEnd
    split
    · exact freed v
    · split
      · exact freed v
      · refine h.congr fun q => ?_
        rw [handOver_player]
        split
        · exact ⟨rfl, rfl, rfl, rfl, rfl, by simp⟩
        · exact .refl _
  | releaseEnd v => exact freed v
  | learnTimeout p => exact h.congr (.endLearn p _ _ s)
  | silenceTimeout p due => exact h.loseLink due
  | sense p f stands => exact (cleared p).takeSense (enabled stands) f
  | hello p f stands => exact (cleared p).takeHello (enabled stands) f
  | learnReq p f stands => exact (cleared p).takeLearnReq f
  | keeps p k =>
    obtain ⟨ps, kept, rfl⟩ := k
    have frame := kept.frame
    refine h.keep ⟨?_, ?_, ?_, ?_, ?_, ?_⟩ <;> rw [frame]
    exact id
  | softReset =>
    refine ⟨fun p => ?_⟩
    rw [softResetAll_player]
    exact .of_quiet (by simp [PlayerState.softReset, PlayerState.reset]) rfl rfl (fun _ => rfl) (.inl rfl) rfl
  | panic => exact h.panicAll
  | restore n => exact h.preempt _ fun _ => rfl
  | linkReset p => exact h.resetLink p
  | linkEnable p v => exact h.writeLinkEnable p v
  | entryFlags n e hold v => exact h.preempt _ fun _ => rfl
  | reserve p | ceiling p => exact h.keep ⟨rfl, rfl, rfl, rfl, rfl, id⟩
  | table w => cases w <;> exact h.congr fun _ => .refl _

/-- Settles O9: an operation moves the link fields together, and a decision leaves a note only while BREATHING. -/
theorem stepKeepsLinksAndPlayingAgreed : Obligations.StepKeepsLinksAndPlayingAgreed :=
  fun _ _ records playing run => AllLinked.claims <|
    step_keeps (fun s t h => by rw [h]; exact fun k => k.congr fun _ => .refl _) (fun _ _ => Effects.allLinked)
      (.of_claims records playing) run

end Sys2Proof.Machine


/-!
Arithmetic of the breath curve, the increments and the renderer (R15, R16, R34, R96, R126, R134 to R140).
-/

namespace Sys2Proof.Machine

/-! ### The curve and the smoothing (R15, R16) -/

/-- A fraction of a rise, rounded toward zero, lies between none of it and the whole. -/
theorem tdiv_fraction_nonneg {d n : Int} {f : Nat} (rise : 0 ≤ d) (part : f ≤ n) (hn : 0 < n) :
    0 ≤ (d * f).tdiv n ∧ (d * f).tdiv n ≤ d := by
  have product : 0 ≤ d * f := Int.mul_nonneg rise (Int.natCast_nonneg f)
  rw [Int.tdiv_eq_ediv_of_nonneg product]
  exact ⟨Int.ediv_nonneg product hn.le, Int.ediv_le_of_le_mul hn (Int.mul_le_mul_of_nonneg_left part rise)⟩

/-- A fraction of a fall, rounded toward zero, lies between the whole of it and none. -/
theorem tdiv_fraction_nonpos {d n : Int} {f : Nat} (fall : d ≤ 0) (part : f ≤ n) (hn : 0 < n) :
    d ≤ (d * f).tdiv n ∧ (d * f).tdiv n ≤ 0 := by
  obtain ⟨low, high⟩ := tdiv_fraction_nonneg (d := -d) (Int.neg_nonneg_of_nonpos fall) part hn
  rw [Int.neg_mul, Int.neg_tdiv] at low high
  exact ⟨by omega, by omega⟩

theorem curveLevel_eq (c : Curve) (seg f : Nat) (hf : f < 256) :
    curveLevel c (256 * seg + f) =
      ((c.toList.getD seg 0 : Int) + (((c.toList.getD (seg + 1) 0 : Int) - c.toList.getD seg 0) * f).tdiv 256).toNat := by
  have segment : (256 * seg + f) / 256 = seg := by omega
  have fraction : (256 * seg + f) % 256 = f := by omega
  rw [curveLevel, segment, fraction]

/-- The curve level lies between two neighbouring points, and is the first at fraction 0 (R15). -/
theorem curveLevel_between (c : Curve) (seg f : Nat) (hf : f < 256) :
    min (c.toList.getD seg 0) (c.toList.getD (seg + 1) 0) ≤ curveLevel c (256 * seg + f) ∧
    curveLevel c (256 * seg + f) ≤ max (c.toList.getD seg 0) (c.toList.getD (seg + 1) 0) ∧
    (f = 0 → curveLevel c (256 * seg + f) = c.toList.getD seg 0) := by
  rw [curveLevel_eq c seg f hf]
  generalize c.toList.getD seg 0 = lo
  generalize c.toList.getD (seg + 1) 0 = hi
  refine ⟨?_, ?_, fun none => by simp [none]⟩ <;> rcases le_total lo hi with up | down
  · have rise := tdiv_fraction_nonneg (d := (hi : Int) - lo) (f := f) (n := 256) (by omega) (by omega) (by decide)
    omega
  · have fall := tdiv_fraction_nonpos (d := (hi : Int) - lo) (f := f) (n := 256) (by omega) (by omega) (by decide)
    omega
  · have rise := tdiv_fraction_nonneg (d := (hi : Int) - lo) (f := f) (n := 256) (by omega) (by omega) (by decide)
    omega
  · have fall := tdiv_fraction_nonpos (d := (hi : Int) - lo) (f := f) (n := 256) (by omega) (by omega) (by decide)
    omega

theorem smooth_rises {k level goal : Nat} (most : k ≤ 16) (below : level < goal) :
    level < smooth k level goal ∧ smooth k level goal ≤ goal := by
  have rise := tdiv_fraction_nonneg (d := (goal : Int) - level) (f := k) (n := 16) (by omega) (by omega) (by decide)
  unfold smooth smoothStep
  dsimp only
  split_ifs <;> omega

theorem smooth_falls {k level goal : Nat} (most : k ≤ 16) (above : goal < level) :
    goal ≤ smooth k level goal ∧ smooth k level goal < level := by
  have fall := tdiv_fraction_nonpos (d := (goal : Int) - level) (f := k) (n := 16) (by omega) (by omega) (by decide)
  unfold smooth smoothStep
  dsimp only
  split_ifs <;> omega

theorem smooth_self (k goal : Nat) : smooth k goal goal = goal := by simp [smooth, smoothStep]

theorem smooth_whole (level goal : Nat) : smooth 16 level goal = goal := by
  have whole : ((goal : Int) - level) * (16 : Nat) = ((goal : Int) - level) * 16 := rfl
  unfold smooth smoothStep
  rw [whole, Int.mul_tdiv_cancel _ (by decide)]
  dsimp only
  split_ifs <;> omega

/-- Settles O56: the truncated fraction of a segment or of a distance stays within it. -/
theorem breathLevelFollowsTheCurve : Obligations.BreathLevelFollowsTheCurve := by
  refine ⟨fun c seg f hseg hf => ?_, fun k level goal _ most =>
    ⟨smooth_rises most, smooth_falls most, smooth_self k goal, smooth_whole level goal⟩⟩
  have points : c.toList.length = 17 := c.length_toList
  have here : seg < c.toList.length := by omega
  have next : seg + 1 < c.toList.length := by omega
  refine ⟨c.toList[seg], c.toList[seg + 1], List.getElem?_eq_getElem here, List.getElem?_eq_getElem next, ?_⟩
  have between := curveLevel_between c seg f hf
  rwa [List.getD_eq_getElem _ _ here, List.getD_eq_getElem _ _ next] at between

/-! ### The lookup (R34) -/

/-- Settles O58: `find?` gives the first entry that hits, and `hits` is the match. -/
theorem lookupTakesTheFirstMatch : Obligations.LookupTakesTheFirstMatch := by
  intro c keys
  have entries : c.toList.length = 64 := c.length_toList
  have index (e : EntryId) : e.val < c.toList.length := c.length_toList.symm ▸ e.isLt
  have entry (e : EntryId) : c.toList[e.val]'(index e) = chartEntry c e := Vector.getElem_toList _
  refine ⟨fun x => ?_, ?_⟩
  · rw [lookupChart, List.find?_eq_some_iff_getElem]
    constructor
    · rintro ⟨hit, i, hi, rfl, first⟩
      have small : i < 64 := by omega
      refine ⟨⟨i, small⟩, (entry ⟨i, small⟩).symm, (ChartEntry.hits_iff _ _).1 hit, fun d hd hits => ?_⟩
      have missed := first d hd
      rw [entry d, (ChartEntry.hits_iff _ _).2 hits] at missed
      cases missed
    · rintro ⟨e, rfl, hits, first⟩
      refine ⟨(ChartEntry.hits_iff _ _).2 hits, e, index e, entry e, fun j hj => ?_⟩
      have small : j < 64 := hj.trans e.isLt
      rw [entry ⟨j, small⟩, Bool.not_eq_true', ← Bool.not_eq_true, ChartEntry.hits_iff]
      exact first ⟨j, small⟩ hj
  · rw [lookupChart, List.find?_eq_none]
    constructor
    · intro none e hits
      exact none _ (List.getElem_mem (index e)) ((ChartEntry.hits_iff _ _).2 (entry e ▸ hits))
    · intro none x hx hit
      obtain ⟨i, hi, rfl⟩ := List.getElem_of_mem hx
      have small : i < 64 := by omega
      exact none ⟨i, small⟩ (entry ⟨i, small⟩ ▸ (ChartEntry.hits_iff _ _).1 hit)

/-! ### Increments (R126) -/

/-- The increment of a semitone of the octave and a cent of the semitone, in the lowest octave. -/
def fineIncrement (i r : Nat) : Nat := baseConstant * semiTable.getD i 0 / 65536 * centTable.getD r 0 / 65536

theorem incrementOf_eq (pc : Nat) :
    incrementOf pc = fineIncrement (pc / 100 % 12) (pc % 100) * 2 ^ (pc / 100 / 12) := rfl

theorem centTable_le_succ {r : Nat} (h : r < 99) : centTable.getD r 0 ≤ centTable.getD (r + 1) 0 := by
  have size : centTable.length = 100 := by decide
  have risen := centTable_isChain.getElem r (by omega)
  rw [List.getD_eq_getElem _ _ (by omega), List.getD_eq_getElem _ _ (by omega)]
  omega

theorem fineIncrement_cent (i : Nat) {r : Nat} (h : r < 99) : fineIncrement i r ≤ fineIncrement i (r + 1) :=
  Nat.div_le_div_right (Nat.mul_le_mul_left _ (centTable_le_succ h))

theorem fineIncrement_semitone : ∀ i < 11, fineIncrement i 99 ≤ fineIncrement (i + 1) 0 := by decide

theorem fineIncrement_octave : fineIncrement 11 99 ≤ fineIncrement 0 0 * 2 := by decide

/-- One cent up, within a semitone, to the next, or to the next octave. -/
theorem incrementOf_le_succ (pc : Nat) : incrementOf pc ≤ incrementOf (pc + 1) := by
  rw [incrementOf_eq, incrementOf_eq]
  by_cases cent : pc % 100 < 99
  · have semitone : (pc + 1) / 100 = pc / 100 := by omega
    have up : (pc + 1) % 100 = pc % 100 + 1 := by omega
    rw [semitone, up]
    exact Nat.mul_le_mul_right _ (fineIncrement_cent _ cent)
  · have last : pc % 100 = 99 := by omega
    have next : (pc + 1) / 100 = pc / 100 + 1 := by omega
    have first : (pc + 1) % 100 = 0 := by omega
    rw [last, next, first]
    by_cases semitone : pc / 100 % 12 < 11
    · have octave : (pc / 100 + 1) / 12 = pc / 100 / 12 := by omega
      have up : (pc / 100 + 1) % 12 = pc / 100 % 12 + 1 := by omega
      rw [octave, up]
      exact Nat.mul_le_mul_right _ (fineIncrement_semitone _ semitone)
    · have top : pc / 100 % 12 = 11 := by omega
      have octave : (pc / 100 + 1) / 12 = pc / 100 / 12 + 1 := by omega
      have bottom : (pc / 100 + 1) % 12 = 0 := by omega
      rw [top, octave, bottom, Nat.pow_succ', ← Nat.mul_assoc]
      exact Nat.mul_le_mul_right _ fineIncrement_octave

theorem incrementOf_monotone : Monotone incrementOf := monotone_nat_of_le_succ incrementOf_le_succ

theorem incrementOf_top : incrementOf 12799 = 1188459520 := by decide

/-- Settles O60: the increment rises at each step of a cent. -/
theorem incrementsRiseWithPitch : Obligations.IncrementsRiseWithPitch :=
  ⟨by decide, incrementOf_top, fun _ _ h _ => incrementOf_monotone h⟩

/-! ### Rendering (R134 to R140) -/

/-- A fraction of a distance, rounded down, stays within the distance. -/
theorem ediv_fraction_between {lo hi : Int} {f n : Nat} (part : f < n) :
    Between (lo + (hi - lo) * f / n) lo hi := by
  have pos : (0 : Int) < n := by omega
  unfold Between
  rcases le_total lo hi with up | down
  · have low : 0 ≤ (hi - lo) * f / n := Int.ediv_nonneg (Int.mul_nonneg (by omega) (by omega)) pos.le
    have high : (hi - lo) * f / n ≤ hi - lo := by
      refine Int.ediv_le_of_le_mul pos (Int.mul_le_mul_of_nonneg_left ?_ (by omega))
      omega
    omega
  · have high : (hi - lo) * f / n ≤ 0 :=
      Int.ediv_nonpos_of_nonpos_of_neg (Int.mul_nonpos_of_nonpos_of_nonneg (by omega) (by omega)) pos
    have low : hi - lo ≤ (hi - lo) * f / n := by
      refine Int.le_ediv_of_mul_le pos ?_
      exact Int.mul_le_mul_of_nonpos_left (by omega) (by omega)
    omega

theorem tableFraction_lt (phase : Word) : tableFraction phase < 65536 := Nat.mod_lt _ (by decide)

theorem waveReading_between (m : Memory) (n : WaveId) (phase : Word) :
    Between (waveReading m n phase) (waveEntry m n (tableIndex phase))
      (waveEntry m n ((tableIndex phase + 1) % 256)) :=
  ediv_fraction_between (tableFraction_lt phase)

theorem blended_between (m : Memory) {vo : Voice} (h : vo.morph ≤ 255) :
    Between (blended m vo) (waveReading m vo.copies.waveA vo.phase) (waveReading m vo.copies.waveB vo.phase) :=
  ediv_fraction_between (n := 256) (Nat.lt_succ_of_le h)

theorem waveEntry_bounds (m : Memory) (n : WaveId) (j : Nat) :
    -32768 ≤ waveEntry m n j ∧ waveEntry m n j ≤ 32767 :=
  ⟨BitVec.le_toInt _, Int.le_of_lt_add_one BitVec.toInt_lt⟩

theorem blended_bounds (m : Memory) {vo : Voice} (h : vo.morph ≤ 255) :
    -32768 ≤ blended m vo ∧ blended m vo ≤ 32767 := by
  have reading (n : WaveId) : -32768 ≤ waveReading m n vo.phase ∧ waveReading m n vo.phase ≤ 32767 := by
    have here := waveEntry_bounds m n (tableIndex vo.phase)
    have next := waveEntry_bounds m n ((tableIndex vo.phase + 1) % 256)
    have between := waveReading_between m n vo.phase
    unfold Between at between
    omega
  have a := reading vo.copies.waveA
  have b := reading vo.copies.waveB
  have between := blended_between m h
  unfold Between at between
  omega

theorem stepToward_le (up down x goal bound : Nat) (hx : x ≤ bound) (hg : goal ≤ bound) :
    stepToward up down x goal ≤ bound := by
  unfold stepToward
  split_ifs <;> omega

theorem steppedAmplitude_le {vo : Voice} (amplitude : vo.amplitude ≤ 65535) (target : vo.target ≤ 65535) :
    steppedAmplitude vo ≤ 65535 := by
  unfold steppedAmplitude
  cases vo.state with
  | sounding => exact stepToward_le _ _ _ _ _ amplitude target
  | releasing => exact stepToward_le _ _ _ _ _ amplitude target
  | fading => exact stepToward_le _ _ _ _ _ amplitude target
  | latched => exact amplitude
  | free => exact amplitude

/-- A voice in range gives an output within its bounds (R137). -/
theorem voiceOutput_bounds (m : Memory) {vo : Voice} (h : vo.InRange) :
    -8388480 ≤ voiceOutput m vo ∧ voiceOutput m vo ≤ 8388224 := by
  unfold voiceOutput
  split_ifs
  · omega
  · obtain ⟨low, high⟩ := blended_bounds m h.morph
    have amplitude : (steppedAmplitude vo : Int) ≤ 65535 := by
      exact_mod_cast steppedAmplitude_le h.amplitude h.target
    have sign : (0 : Int) ≤ steppedAmplitude vo := Int.natCast_nonneg _
    constructor
    · refine Int.le_ediv_of_mul_le (by decide) ?_
      nlinarith
    · refine Int.le_of_lt_add_one (Int.ediv_lt_of_lt_mul (by decide) ?_)
      nlinarith

/-- The two panned parts sum to the output, or to one less (R138). -/
theorem panned_sum (m : Memory) (vo : Voice) :
    leftPart m vo + rightPart m vo = voiceOutput m vo ∨ leftPart m vo + rightPart m vo = voiceOutput m vo - 1 := by
  unfold leftPart rightPart
  generalize voiceOutput m vo = x
  have split : x * (128 - (vo.copies.pan : Int)) = 128 * x - x * vo.copies.pan := by ring
  rw [split]
  omega

/-- Settles O14: interpolations stay between their ends, and the output within the product of its bounds. -/
theorem renderArithmeticStaysInBounds : Obligations.RenderArithmeticStaysInBounds := fun m _ =>
  ⟨fun n => waveReading_between m n _, blended_between m, voiceOutput_bounds m, fun _ => panned_sum m _⟩

/-! ### Fades (R96, R136, R140) -/

/-- One sample period of a fading voice of target 0. -/
theorem rendered_fading {vo : Voice} (fading : vo.state = .fading) (target : vo.target = 0) :
    vo.rendered.state = .fading ∧ vo.rendered.target = 0 ∧ vo.rendered.amplitude = vo.amplitude - 1024 ∧
    vo.rendered.endReported = (vo.endReported || Decidable.decide (vo.amplitude ≤ 1024)) := by
  have stepped : steppedAmplitude vo = vo.amplitude - 1024 := by
    rw [steppedAmplitude, fading, target]
    change stepToward 0 1024 vo.amplitude 0 = vo.amplitude - 1024
    unfold stepToward
    split_ifs <;> omega
  have ended : endDetected vo = Decidable.decide (vo.amplitude ≤ 1024) := by
    rw [endDetected, fading, stepped]
    simp [Nat.sub_eq_zero_iff_le]
  rw [Voice.rendered, if_neg (by rw [fading]; decide)]
  exact ⟨fading, target, stepped, by rw [ended]⟩

/-- What n sample periods do to a fading voice of target 0. -/
theorem rendered_iterate_fading {vo : Voice} (fading : vo.state = .fading) (target : vo.target = 0) (n : Nat) :
    (Voice.rendered^[n] vo).state = .fading ∧ (Voice.rendered^[n] vo).target = 0 ∧
    (Voice.rendered^[n] vo).amplitude = vo.amplitude - 1024 * n := by
  induction n with
  | zero => exact ⟨fading, target, rfl⟩
  | succ n ih =>
    obtain ⟨fading, target, amplitude⟩ := ih
    obtain ⟨state, goal, fallen, -⟩ := rendered_fading fading target
    rw [Function.iterate_succ_apply']
    refine ⟨state, goal, ?_⟩
    rw [fallen, amplitude]
    omega

/-- Settles O15: by induction over the sample periods; the 64th starts from at most 1,023. -/
theorem fadeEndsWithinSixtyFourPeriods : Obligations.FadeEndsWithinSixtyFourPeriods := by
  intro vo fading target bound
  refine ⟨fun n => (rendered_iterate_fading fading target n).2.2, ?_⟩
  obtain ⟨state, goal, amplitude⟩ := rendered_iterate_fading fading target 63
  rw [Function.iterate_succ_apply' _ 63, (rendered_fading state goal).2.2.2, amplitude]
  have last : vo.amplitude - 1024 * 63 ≤ 1024 := by omega
  simp [last]

end Sys2Proof.Machine


/-!
The layers of a note's binding list: each operation keeps them, or begins a note that has one item for each enabled
layer, in layer order (R84, R86).
-/

namespace Sys2Proof.Machine

/-- The layers of the items of a player's current note, in the order of its binding list (R84). -/
def PlayerState.layerList (ps : PlayerState) : List LayerId :=
  match ps.note with
  | none => []
  | some n => n.binding.map Binding.layer

theorem PlayerState.layerList_of_note_eq {a b : PlayerState} (h : b.note = a.note) : b.layerList = a.layerList := by
  rw [layerList, layerList, h]

/-- A binding list whose items change but for their layers. -/
theorem PlayerState.layerList_of_map {a b : PlayerState} (f : Binding → Binding) (layer : ∀ x, (f x).layer = x.layer)
    (note : b.note = a.note.map fun n => { n with binding := n.binding.map f }) : b.layerList = a.layerList := by
  unfold layerList
  rw [note]
  cases a.note with
  | none => rfl
  | some n => simp [Function.comp_def, layer]

theorem Binding.denyVoice_layer (v : VoiceId) (b : Binding) : (b.denyVoice v).layer = b.layer := by
  unfold Binding.denyVoice
  split <;> rfl

theorem Binding.handOver_layer (v : VoiceId) (b : Binding) : (b.handOver v).layer = b.layer := by
  unfold Binding.handOver
  split <;> rfl

theorem PlayerState.detached_layerList (ps : PlayerState) (v : VoiceId) (st : VoiceState) :
    (ps.detached v st).layerList = ps.layerList := by
  cases st with
  | sounding => exact layerList_of_map _ (Binding.denyVoice_layer v) rfl
  | latched | free | releasing | fading => rfl

theorem PlayerState.told_note (ps : PlayerState) (s : State) (v : VoiceId) (u : VoiceUse) (d : Option LatchEntry) :
    (ps.told s v u d).note = ps.note := by
  unfold PlayerState.told
  cases d <;> simp

theorem stealVoice_layerList (v : VoiceId) (p : Player) (tag : BitVec 8) (l : LayerId) (s : State) (q : Player) :
    ((stealVoice v p tag l s).player q).layerList = (s.player q).layerList := by
  cases h : (s.voice v).use with
  | none => rw [stealVoice_of_none v p tag l s h]
  | some u =>
    have seized : ((seizeVoice v u p tag l s).player q).layerList = (s.player q).layerList := by
      rw [seizeVoice_player]
      split
      · exact PlayerState.detached_layerList ..
      · rfl
    rw [stealVoice_player v p tag l u s h]
    split
    · exact (PlayerState.layerList_of_note_eq (PlayerState.told_note ..)).trans seized
    · exact seized

theorem answer_layerList (p : Player) (note : Note) (l : LayerId) (s : State) (a : Answer) (q : Player) :
    ((a.apply p note l s).player q).layerList = (s.player q).layerList := by
  cases a with
  | grant v rest =>
    rw [Answer.apply, grantVoice_player]
    split
    · next hq => subst hq; rfl
    · rfl
  | steal v => exact stealVoice_layerList v p note.tag l s q
  | deny =>
    rw [Answer.apply, denyLayer_player]
    split
    · next hq => subst hq; exact PlayerState.layerList_of_note_eq (PlayerState.placed_note ..)
    · rfl

/-- A steal leaves every player with the note it has, but for its binding items. -/
theorem answer_note_isSome (p : Player) (note : Note) (l : LayerId) (s : State) (a : Answer) (q : Player) :
    ((a.apply p note l s).player q).note.isSome = (s.player q).note.isSome := by
  cases a with
  | grant v rest =>
    rw [Answer.apply, grantVoice_player]
    split
    · next hq => subst hq; rfl
    · rfl
  | steal v =>
    rw [Answer.apply]
    cases h : (s.voice v).use with
    | none => rw [stealVoice_of_none v p note.tag l s h]
    | some u =>
      have seized : ((seizeVoice v u p note.tag l s).player q).note.isSome = (s.player q).note.isSome := by
        rw [seizeVoice_player]
        split
        · cases (s.voice v).state <;> simp [PlayerState.detached]
        · rfl
      rw [stealVoice_player v p note.tag l u s h]
      split
      · rw [PlayerState.told_note]; exact seized
      · exact seized
  | deny =>
    rw [Answer.apply, denyLayer_player]
    split
    · next hq => subst hq; rw [PlayerState.placed_note]
    · rfl

theorem layerRequest_note_isSome (p : Player) (note : Note) (l : LayerId) (s : State) (q : Player) :
    ((layerRequest p note l s).player q).note.isSome = (s.player q).note.isSome := by
  unfold layerRequest bind
  rw [State.player_modPlayer]
  split
  · next hq => subst hq; simp [answer_note_isSome]
  · exact answer_note_isSome ..

theorem layerRequest_layerList (p : Player) (note : Note) (l : LayerId) (s : State) (q : Player) :
    ((layerRequest p note l s).player q).layerList =
      (s.player q).layerList ++ (if q = p ∧ (s.player p).note.isSome = true then [l] else []) := by
  have answered := answer_layerList p note l s (poolChoice s p) q
  have some := answer_note_isSome p note l s (poolChoice s p) q
  unfold layerRequest bind
  rw [State.player_modPlayer]
  rcases eq_or_ne q p with rfl | other
  · rw [if_pos rfl, ← answered, ← some]
    unfold PlayerState.layerList
    cases (((poolChoice s q).apply q note l s).player q).note <;> simp
  · rw [if_neg other, answered, if_neg (fun h => other h.1), List.append_nil]

theorem layerRequests_layerList (p : Player) (note : Note) (ls : List LayerId) (s : State) (q : Player) :
    ((ls.foldl (fun t l => layerRequest p note l t) s).player q).layerList =
      (s.player q).layerList ++ (if q = p ∧ (s.player p).note.isSome = true then ls else []) := by
  induction ls generalizing s with
  | nil => simp
  | cons l ls ih =>
    rw [List.foldl_cons, ih, layerRequest_layerList, layerRequest_note_isSome, List.append_assoc]
    congr 1
    split <;> rfl

theorem report_layerList (s : State) (p : Player) (k : EventKind) (tag : BitVec 8) (note : Nat) (fl : Byte) (value : Nat)
    (q : Player) : ((report p k tag note fl value s).player q).layerList = (s.player q).layerList := by
  rw [report_player]
  split
  · next hq => subst hq; exact PlayerState.layerList_of_note_eq (PlayerState.queued_note ..)
  · rfl

/-- An onset gives its note one item for each enabled layer, in layer order, and leaves the layers of the other
players' notes (R86). -/
theorem onsetDecision_layerList (p : Player) (n : Nat) (fl : RangeFlag) (s : State) (q : Player) :
    ((onsetDecision p n fl s).player q).layerList =
      if q = p then enabledLayers (s.activeSetup p) else (s.player q).layerList := by
  have reported (note : Note) (t : State) : ((reportOnset p note t).player q).layerList = (t.player q).layerList := by
    unfold reportOnset
    rw [foldl_keeps (fun u : State => (u.player q).layerList) _ fun u b => report_layerList ..]
    exact report_layerList ..
  rw [onsetDecision, reported, layerRequests_layerList, beginNote]
  rcases eq_or_ne q p with rfl | other
  · simp [PlayerState.layerList, newNote]
  · simp [other, State.player_modPlayer_other _ other]

theorem enabledLayers_pairwise (st : Setup) : (enabledLayers st).Pairwise (· < ·) :=
  List.Pairwise.filter _ (by decide : allLayers.Pairwise (· < ·))

/-! ### Layer order in every note -/

/-- Every player's note has at most one item for each layer, in layer order (R84). -/
def LayersOrdered (s : State) : Prop := ∀ p, (s.player p).layerList.Pairwise (· < ·)

/-- Each player's layers are as they were, or those of a note in layer order. -/
structure LayersFrom (s t : State) : Prop where
  player : ∀ p, (t.player p).layerList = (s.player p).layerList ∨ (t.player p).layerList.Pairwise (· < ·)

theorem LayersOrdered.from {s t : State} (h : LayersOrdered s) (k : LayersFrom s t) : LayersOrdered t := fun p =>
  (k.player p).elim (fun e => e ▸ h p) id

theorem LayersFrom.refl (s : State) : LayersFrom s s := ⟨fun _ => .inl rfl⟩

theorem LayersFrom.trans {s t u : State} (h : LayersFrom s t) (k : LayersFrom t u) : LayersFrom s u where
  player p := (k.player p).elim (fun e => e ▸ h.player p) .inr

theorem LayersFrom.of_player {s t : State} {p : Player} {ps : PlayerState}
    (players : ∀ q, t.player q = if q = p then ps else s.player q) (note : ps.note = (s.player p).note ∨ ps.note = none) :
    LayersFrom s t := by
  refine ⟨fun q => ?_⟩
  rw [players]
  split
  · next hq =>
    subst hq
    rcases note with same | ended
    · exact .inl (PlayerState.layerList_of_note_eq same)
    · refine .inr ?_
      rw [PlayerState.layerList, ended]
      exact List.Pairwise.nil
  · exact .inl rfl

theorem LayersFrom.of_players {s t : State} (h : ∀ p, (t.player p).note = (s.player p).note) : LayersFrom s t :=
  ⟨fun p => .inl (PlayerState.layerList_of_note_eq (h p))⟩

theorem LayersFrom.foldl_modVoice (f : Voice → Voice) (l : List VoiceId) (s : State) :
    LayersFrom s (l.foldl (fun t v => t.modVoice v f) s) := .of_players fun _ => by rw [foldl_modVoice_player]

theorem LayersFrom.onsetDecision (p : Player) (n : Nat) (fl : RangeFlag) (s : State) :
    LayersFrom s (onsetDecision p n fl s) := by
  refine ⟨fun q => ?_⟩
  rw [onsetDecision_layerList]
  split
  · exact .inr (enabledLayers_pairwise _)
  · exact .inl rfl

theorem LayersFrom.changeDecision (p : Player) (n : Nat) (fl : RangeFlag) (s : State) :
    LayersFrom s (changeDecision p n fl s) := by
  cases current : (s.player p).note with
  | none => rw [Machine.changeDecision, current]; exact .refl s
  | some note =>
    refine ⟨fun q => .inl ?_⟩
    rw [changeDecision_player current]
    split
    · next hq => subst hq; simp [PlayerState.layerList, current]
    · rfl

theorem LayersFrom.offDecision (p : Player) (r : OffReason) (s : State) : LayersFrom s (offDecision p r s) :=
  .of_player (offDecision_player p r s) (.inr (by simp))

theorem LayersFrom.decide (p : Player) (r : BreathReport) (res : Resolution) (s : State) :
    LayersFrom s (decide p r res s) := by
  unfold Machine.decide
  cases decisionFor r (s.player p).breath res (s.activeSetup p).policy (s.player p).note with
  | none => exact .refl s
  | onset n f => exact .onsetDecision p n f s
  | change n f => exact .changeDecision p n f s
  | off reason => exact .offDecision p reason s

theorem LayersFrom.clearStack (p : Player) (r : Nat) (s : State) : LayersFrom s (clearStack p r s) :=
  .of_player (clearStack_player p r s) (.inl (by simp))

theorem makeRoom_note (p : Player) (s : State) (q : Player) : ((makeRoom p s).player q).note = (s.player q).note := by
  rcases eq_or_ne q p with rfl | other
  · rcases makeRoom_cases q s with ⟨-, e⟩ | ⟨bottom, es, -, -, e⟩ <;> rw [e]
    rw [report_player_self, PlayerState.queued_note, State.player_modPlayer_self, releaseEntry_player]
  · rw [makeRoom_player_other other]

theorem LayersFrom.latchNote (p : Player) (note : Note) (s : State) : LayersFrom s (latchNote p note s) :=
  .of_player (latchNote_player p note s) (.inr (by simp))

theorem LayersFrom.press (p : Player) (s : State) : LayersFrom s (press p s) := by
  unfold Machine.press
  split
  · split
    · exact .refl s
    · exact (LayersFrom.trans (.of_players (makeRoom_note p s)) (.latchNote p _ _)).trans (.onsetDecision ..)
  · exact .refl s
  · exact .clearStack p 1 s
  · exact .clearStack p 1 s
  · exact .clearStack p 1 s
  · exact .refl s

end Sys2Proof.Machine


/-!
What learns, setups and links leave of what plays: the voices, the free queue, the notes, the latch stacks and the held
counts.
-/

namespace Sys2Proof.Machine

/-- The pool, the notes and the latch stacks are as they were. -/
structure PlayingKept (s t : State) : Prop where
  voice : ∀ v, t.voice v = s.voice v
  freeQueue : t.freeQueue = s.freeQueue
  note : ∀ p, (t.player p).note = (s.player p).note
  latch : ∀ p, (t.player p).latch = (s.player p).latch
  held : ∀ p, (t.player p).held = (s.player p).held

theorem PlayingKept.refl (s : State) : PlayingKept s s := ⟨fun _ => rfl, rfl, fun _ => rfl, fun _ => rfl, fun _ => rfl⟩

theorem PlayingKept.trans {s t u : State} (h : PlayingKept s t) (k : PlayingKept t u) : PlayingKept s u where
  voice v := (k.voice v).trans (h.voice v)
  freeQueue := k.freeQueue.trans h.freeQueue
  note p := (k.note p).trans (h.note p)
  latch p := (k.latch p).trans (h.latch p)
  held p := (k.held p).trans (h.held p)

/-- The same voices and free queue, and one player's record rewritten outside what plays. -/
theorem PlayingKept.of_player {s t : State} {p : Player} {ps : PlayerState} (voice : ∀ v, t.voice v = s.voice v)
    (freeQueue : t.freeQueue = s.freeQueue) (players : ∀ q, t.player q = if q = p then ps else s.player q)
    (note : ps.note = (s.player p).note) (latch : ps.latch = (s.player p).latch) (held : ps.held = (s.player p).held) :
    PlayingKept s t := by
  refine ⟨voice, freeQueue, fun q => ?_, fun q => ?_, fun q => ?_⟩ <;> rw [players] <;> split
  · next hq => rw [note, hq]
  · rfl
  · next hq => rw [latch, hq]
  · rfl
  · next hq => rw [held, hq]
  · rfl

theorem PlayingKept.modPlayer {s : State} {p : Player} {f : PlayerState → PlayerState}
    (note : (f (s.player p)).note = (s.player p).note) (latch : (f (s.player p)).latch = (s.player p).latch)
    (held : (f (s.player p)).held = (s.player p).held) : PlayingKept s (s.modPlayer p f) :=
  .of_player (fun _ => rfl) rfl (s.player_modPlayer p · f) note latch held

theorem PlayingKept.layersFrom {s t : State} (h : PlayingKept s t) : LayersFrom s t := .of_players h.note

theorem PlayingKept.report (s : State) (p : Player) (k : EventKind) (tag : BitVec 8) (note : Nat) (fl : Byte)
    (value : Nat) : PlayingKept s (report p k tag note fl value s) :=
  .of_player (report_voice s p k tag note fl value) rfl (report_player s p k tag note fl value)
    (PlayerState.queued_note ..) (PlayerState.queued_latch ..) (PlayerState.queued_held ..)

theorem PlayingKept.placeReply (s : State) (p : Player) (r : Reply) : PlayingKept s (placeReply p r s) :=
  .of_player (placeReply_voice s p r) rfl (placeReply_player s p r)
    (PlayerState.placed_note ..) (PlayerState.placed_latch ..) (PlayerState.placed_held ..)

theorem PlayingKept.raiseFlag (s : State) (p : Player) (flag : Byte) : PlayingKept s (raiseFlag p flag s) :=
  .of_player (fun _ => rfl) rfl (raiseFlag_player s p flag) rfl rfl rfl

/-! ### Learns and setups -/

theorem PlayerState.learnPlaced_note (ps : PlayerState) (learn : Option LearnRecord) (result : LearnResult) :
    (ps.learnPlaced learn result).note = ps.note := by
  cases learn with
  | none => rfl
  | some r => exact PlayerState.placed_note _ _

theorem PlayerState.learnPlaced_latch (ps : PlayerState) (learn : Option LearnRecord) (result : LearnResult) :
    (ps.learnPlaced learn result).latch = ps.latch := by
  cases learn with
  | none => rfl
  | some r => exact PlayerState.placed_latch _ _

theorem PlayerState.learnPlaced_held (ps : PlayerState) (learn : Option LearnRecord) (result : LearnResult) :
    (ps.learnPlaced learn result).held = ps.held := by
  cases learn with
  | none => rfl
  | some r => exact PlayerState.placed_held _ _

theorem PlayingKept.endLearn (p : Player) (result : LearnResult) (reply : Bool) (s : State) :
    PlayingKept s (endLearn p result reply s) :=
  .of_player (endLearn_voice p result reply s) (endLearn_freeQueue ..) (endLearn_player p result reply s)
    (by rw [PlayerState.learnPlaced_note, PlayerState.queuedAll_note])
    (by rw [PlayerState.learnPlaced_latch, PlayerState.queuedAll_latch])
    (by rw [PlayerState.learnPlaced_held, PlayerState.queuedAll_held])

theorem PlayingKept.completeLearn (p : Player) (s : State) : PlayingKept s (completeLearn p s) := by
  cases pending : (s.player p).learn with
  | none => rw [Machine.completeLearn, pending]; exact .refl s
  | some r =>
    have plays := completeLearn_eq pending
    exact .of_player (fun v => by rw [plays]; rfl) (by rw [plays]) (completeLearn_player pending)
      (by rw [PlayerState.placed_note, PlayerState.queued_note])
      (by rw [PlayerState.placed_latch, PlayerState.queued_latch])
      (by rw [PlayerState.placed_held, PlayerState.queued_held])

theorem PlayingKept.applySetup (p : Player) (s : State) : PlayingKept s (applySetup p s) :=
  .of_player (applySetup_voice p s) (applySetup_freeQueue ..) (applySetup_player p s)
    (by rw [PlayerState.learnPlaced_note, PlayerState.queuedAll_note])
    (by rw [PlayerState.learnPlaced_latch, PlayerState.queuedAll_latch])
    (by rw [PlayerState.learnPlaced_held, PlayerState.queuedAll_held])

theorem PlayingKept.selectSetup (p : Player) (n : SetupId) (s : State) : PlayingKept s (selectSetup p n s) := by
  have selected : PlayingKept s (s.modPlayer p fun ps => { ps with selected := n }) := .modPlayer rfl rfl rfl
  rcases selectSetup_cases p n s with e | e <;> rw [e]
  · exact selected
  · exact selected.trans (.applySetup p _)

theorem PlayingKept.deferredSetup (p : Player) (before : BreathState) (s : State) :
    PlayingKept s (deferredSetup p before s) := by
  rcases deferredSetup_cases p before s with e | e <;> rw [e]
  · exact .refl s
  · exact .applySetup p s

theorem PlayingKept.preempt (hit : PlayerState → Bool) {s u : State} (h : PlayingKept s u) :
    PlayingKept s (preempt hit u) :=
  h.trans (foldl_extends PlayingKept _ .refl .trans _ u fun t p _ => by
    split
    · exact .endLearn p _ _ t
    · exact .refl t)

theorem PlayingKept.requestLearn (p : Player) (index biased : BitVec 7) (s : State) :
    PlayingKept s (requestLearn p index biased s) := by
  have accepted (slot : ChartSlot) (e : EntryId) : PlayingKept s (acceptLearn p slot e biased s) :=
    .of_player (fun _ => rfl) rfl (fun q => State.player_modPlayer _ p q _) rfl rfl rfl
  unfold Machine.requestLearn
  dsimp only
  split_ifs
  · exact .placeReply ..
  · exact .placeReply ..
  · split
    · split_ifs
      · exact accepted _ _
      · exact .placeReply ..
    · exact accepted _ _

/-! ### Frames -/

theorem PlayingKept.checkSequence (p : Player) (seq : BitVec 4) (s : State) : PlayingKept s (checkSequence p seq s) := by
  have seen : PlayingKept s (s.modPlayer p fun ps => { ps with seqRef := some seq }) := .modPlayer rfl rfl rfl
  unfold Machine.checkSequence
  dsimp only
  split
  · exact seen
  · split_ifs
    · exact seen
    · exact seen.trans (.raiseFlag ..)

theorem PlayingKept.bringUp (p : Player) (cause : Nat) (seq : BitVec 4) (s : State) :
    PlayingKept s (bringUp p cause seq s) := by
  unfold Machine.bringUp
  exact PlayingKept.trans (.modPlayer rfl rfl rfl) (.report ..)

theorem PlayingKept.clearReceived (p : Player) (s : State) : PlayingKept s (clearReceived p s) := by
  unfold Machine.clearReceived
  exact .modPlayer rfl rfl rfl

theorem PlayingKept.frameSelected (p : Player) (f : SenseFields) (s : State) : PlayingKept s (frameSelected p f s) := by
  unfold Machine.frameSelected
  exact PlayingKept.trans (.modPlayer rfl rfl rfl) (.selectSetup ..)

theorem PlayingKept.resolverStages (p : Player) (f : SenseFields) (r : BreathReport) (s : State) :
    PlayingKept s (resolverStages p f r s) := by
  have keyed (onset : Bool) : PlayingKept s (keyStages p f onset s) :=
    .of_player (fun _ => rfl) rfl (keyStages_player p f onset s) rfl rfl rfl
  have bent (t : State) : PlayingKept t (bendStage p f.bite t) :=
    .of_player (fun _ => rfl) rfl (bendStage_player p f.bite t) rfl rfl rfl
  unfold Machine.resolverStages
  dsimp only
  split_ifs
  · exact ((keyed _).trans (.completeLearn p _)).trans (bent _)
  · exact (keyed _).trans (bent _)

theorem PlayingKept.frameResolved (p : Player) (f : SenseFields) (s : State) : PlayingKept s (frameResolved p f s) := by
  have fronted (t : State) : PlayingKept t (frontEnd p f.breath.toNat t) :=
    .of_player (fun _ => rfl) rfl (frontEnd_player p f.breath.toNat t) rfl rfl rfl
  exact ((PlayingKept.frameSelected p f s).trans (fronted _)).trans (.resolverStages ..)

theorem PlayingKept.openSlot (p : Player) (seq : BitVec 4) (ok : Bool) (s : State) :
    PlayingKept s (openSlot p seq ok s) := by
  rw [openSlot_eq]
  exact .modPlayer rfl rfl rfl

theorem PlayingKept.takeHello (p : Player) (f : FrameBody) (s : State) : PlayingKept s (takeHello p f s) := by
  have counted (t : State) : PlayingKept t (takeKeyCount p f.c1 t) := by
    unfold takeKeyCount
    exact .modPlayer rfl rfl rfl
  unfold Machine.takeHello
  split
  · exact (PlayingKept.checkSequence p _ s).trans (counted _)
  · exact (counted s).trans (.bringUp ..)
  · exact (counted s).trans (.bringUp ..)

theorem PlayingKept.takeLearnReq (p : Player) (f : FrameBody) (s : State) : PlayingKept s (takeLearnReq p f s) := by
  unfold Machine.takeLearnReq
  split
  · exact .refl s
  · exact (PlayingKept.checkSequence p _ s).trans (.requestLearn ..)
  · exact (PlayingKept.report ..).trans (.placeReply ..)

/-! ### Commands that do not play -/

theorem Keeps.playingKept {p : Player} {s t : State} (h : Keeps p s t) : PlayingKept s t := by
  obtain ⟨ps, kept, rfl⟩ := h
  have frame := kept.frame
  exact .modPlayer (by rw [frame]) (by rw [frame]) (by rw [frame])

theorem panicAll_voice (s : State) (v : VoiceId) : (panicAll s).voice v = (s.voice v).panicked := by
  rw [panicAll_eq]
  simp [State.voice]

theorem softResetAll_voice (s : State) (v : VoiceId) : (softResetAll s).voice v = resetVoice := by
  simp [softResetAll, State.voice, State.modPlayers]

theorem renderPeriod_voice (s : State) (v : VoiceId) : (renderPeriod s).voice v = (s.voice v).rendered := by
  simp [renderPeriod, State.voice, State.modPlayers]

end Sys2Proof.Machine


/-!
Ranges (R8, R13, R16, R19, R39, R40, R44, R62 to R69, R74, R78, R107, R118, R119, R136, R146, R147, R149, R178, R181).
What playing reads, the settings, and what it writes, the notes, latch entries and voices, keep their ranges apart.
-/

namespace Sys2Proof.Machine

/-! ### Voices -/

/-- An update of the fields that carry no range, and of the target. -/
theorem Voice.InRange.of_eq {a b : Voice} (h : a.InRange)
    (frame : b = { a with
      state := b.state, use := b.use, stamp := b.stamp, phase := b.phase, target := b.target, claim := b.claim,
      endReported := b.endReported })
    (target : b.target ≤ 65535) : b.InRange := by
  rw [frame]
  exact ⟨h.interval, h.detune, h.glideStep, h.riseStep, h.fallStep, h.releaseStep, h.gain, h.pan, h.glide, h.bend,
    h.increment, h.amplitude, target, h.morph⟩

theorem incrementOf_lt {pc : Nat} (h : pc ≤ 12799) : incrementOf pc < 2 ^ 31 :=
  calc incrementOf pc ≤ incrementOf 12799 := incrementOf_monotone h
    _ = 1188459520 := incrementOf_top
    _ < 2 ^ 31 := by decide

theorem pitchOf_le (tuning : Int) (vo : Voice) : pitchOf tuning vo ≤ 12799 := by
  rw [pitchOf_eq]
  omega

/-- New pitch inputs in range, and the increment computed afresh. -/
theorem Voice.InRange.pitched {a : Voice} (h : a.InRange) (tuning : Int) {current target : Nat} {bend : Int}
    (glide : current ≤ 12700 ∧ target ≤ 12700) (bent : -200 ≤ bend ∧ bend ≤ 0) :
    (Voice.retune tuning { a with glideCurrent := current, glideTarget := target, bend := bend }).InRange :=
  ⟨h.interval, h.detune, h.glideStep, h.riseStep, h.fallStep, h.releaseStep, h.gain, h.pan, glide, bent,
    incrementOf_lt (pitchOf_le _ _), h.amplitude, h.target, h.morph⟩

theorem Voice.InRange.retune {vo : Voice} (h : vo.InRange) (tuning : Int) : (vo.retune tuning).InRange :=
  h.pitched tuning h.glide h.bend

theorem glideToward_le {step current target bound : Nat} (hc : current ≤ bound) (ht : target ≤ bound) :
    glideToward step current target ≤ bound := by
  unfold glideToward
  split_ifs <;> omega

theorem Voice.InRange.frameUpdate {vo : Voice} (h : vo.InRange) (tuning : Int) {bend : Int}
    (bent : -200 ≤ bend ∧ bend ≤ 0) : (vo.frameUpdate tuning bend).InRange :=
  h.pitched tuning ⟨glideToward_le h.glide.1 h.glide.2, h.glide.2⟩ bent

theorem Voice.InRange.frozen {vo : Voice} (h : vo.InRange) (tuning : Int) {glide : Nat} {bend : Int}
    (glided : glide ≤ 12700) (bent : -200 ≤ bend ∧ bend ≤ 0) : (vo.frozen tuning glide bend).InRange := by
  have latched : { vo with state := .latched, target := vo.amplitude, endReported := false }.InRange :=
    h.of_eq rfl h.amplitude
  exact latched.pitched tuning ⟨glided, glided⟩ bent

theorem Voice.InRange.takeLevel {vo : Voice} (h : vo.InRange) {level : Nat} (bound : level ≤ 1023) :
    (vo.takeLevel level).InRange := by
  have product : level * vo.copies.gain ≤ 1023 * 128 := Nat.mul_le_mul bound h.gain
  refine ⟨h.interval, h.detune, h.glideStep, h.riseStep, h.fallStep, h.releaseStep, h.gain, h.pan, h.glide, h.bend,
    h.increment, h.amplitude, ?_, ?_⟩
  · change level * vo.copies.gain / 2 ≤ 65535
    omega
  · change (if vo.copies.morphEnable = true then level / 4 else 0) ≤ 255
    split_ifs <;> omega

theorem Voice.InRange.retargeted {vo : Voice} (h : vo.InRange) {n : Nat} (bound : n ≤ 127) :
    { vo with glideTarget := 100 * n }.InRange :=
  ⟨h.interval, h.detune, h.glideStep, h.riseStep, h.fallStep, h.releaseStep, h.gain, h.pan, ⟨h.glide.1, by dsimp only; omega⟩,
    h.bend, h.increment, h.amplitude, h.target, h.morph⟩

theorem Voice.InRange.rendered {vo : Voice} (h : vo.InRange) : vo.rendered.InRange := by
  unfold Voice.rendered
  split_ifs
  · exact h
  · exact ⟨h.interval, h.detune, h.glideStep, h.riseStep, h.fallStep, h.releaseStep, h.gain, h.pan, h.glide, h.bend,
      h.increment, steppedAmplitude_le h.amplitude h.target, h.target, h.morph⟩

theorem Voice.InRange.letGo {vo : Voice} (h : vo.InRange) (st : VoiceState) : (letGo st vo).InRange := by
  unfold Machine.letGo
  split_ifs
  · exact h.of_eq rfl (Nat.zero_le _)
  · exact h

theorem Voice.InRange.panicked {vo : Voice} (h : vo.InRange) : vo.panicked.InRange := by
  unfold Voice.panicked
  split_ifs
  · exact h
  · exact h.of_eq rfl (Nat.zero_le _)

theorem endedVoice_inRange {vo : Voice} (h : vo.InRange) (ps : PlayerState) (v : VoiceId) :
    (endedVoice ps v vo).InRange := by
  unfold endedVoice
  dsimp only
  split_ifs
  · exact h.of_eq rfl (Nat.zero_le _)
  · exact h.of_eq rfl h.target
  · exact h.of_eq rfl (Nat.zero_le _)
  · exact h

theorem unlatchedVoice_inRange {vo : Voice} (h : vo.InRange) (ps : PlayerState) (v : VoiceId) :
    (unlatchedVoice ps v vo).InRange := by
  unfold unlatchedVoice
  split_ifs
  · exact h.of_eq rfl (Nat.zero_le _)
  · exact h

/-- A voice set up afresh from a setup in range. -/
theorem freshVoice_inRange (s : State) (p : Player) {st : Setup} (h : st.InRange) {number : Nat} (noted : number ≤ 127)
    {bend : Int} (bent : -200 ≤ bend ∧ bend ≤ 0) (tag : BitVec 8) (l : LayerId) (stamp : BitVec 16) :
    (freshVoice s p st number bend tag l stamp).InRange := by
  have layer := h.layers l
  refine ⟨layer.interval, layer.detune, h.glideStep, h.riseStep, h.fallStep, h.releaseStep, layer.gain, layer.pan,
    ⟨?_, ?_⟩, bent, incrementOf_lt ?_, Nat.zero_le _, Nat.zero_le _, Nat.zero_le _⟩
  · change 100 * number ≤ 12700
    omega
  · change 100 * number ≤ 12700
    omega
  · omega

theorem defaultLayer_inRange (enable : Bool) : (defaultLayer enable).InRange := by
  constructor <;> simp [defaultLayer]

theorem defaultSetup_inRange : defaultSetup.InRange where
  trillOn := by decide
  trillOff := by decide
  settleWindow := by decide
  override1 := ⟨by decide, by decide⟩
  override2 := ⟨by decide, by decide⟩
  override3 := ⟨by decide, by decide⟩
  baseNote := by decide
  transpose := by decide
  range := by decide
  onset := by decide
  release := by decide
  smoothing := by decide
  biteRest := by decide
  bendDepth := by decide
  glideStep := by decide
  riseStep := by decide
  fallStep := by decide
  releaseStep := by decide
  layers l := by
    have layer : ∃ enable, defaultSetup.layers[l] = defaultLayer enable := by
      revert l
      decide
    obtain ⟨enable, layer⟩ := layer
    rw [layer]
    exact defaultLayer_inRange enable

theorem resetVoice_inRange : resetVoice.InRange := by
  have layer := defaultSetup_inRange.layers 0
  have setup := defaultSetup_inRange
  exact ⟨layer.interval, layer.detune, setup.glideStep, setup.riseStep, setup.fallStep, setup.releaseStep, layer.gain,
    layer.pan, by decide, by decide, by decide, by decide, by decide, by decide⟩

/-! ### Settings: what playing reads -/

/-- The ranges of a player's record outside its note and its latch stack. -/
structure PlayerState.SettingsInRange (ps : PlayerState) : Prop where
  learn : ∀ r, ps.learn = some r → -24 ≤ r.offset ∧ r.offset ≤ 48
  zeroOffset : ps.zeroOffset ≤ 4095
  threshold : ps.threshold ≤ 15
  level : ps.level ≤ 1023
  breath : ps.breath.InRange
  bend : -200 ≤ ps.bend ∧ ps.bend ≤ 0
  settle : ps.settleCount ≤ 15
  trill : ps.trill.InRange
  keyCount : ps.keyCount ≤ 24
  maskB : ps.maskB.toNat ≤ 7

/-- The desk's tables and fields outside the charts and the players' records, and the samples. -/
structure DeskInRange (s : State) : Prop where
  setups : ∀ n, (s.setup n).InRange
  curves : ∀ c i, s.curves[(c : CurveId)][(i : Fin Config.numPoints)] ≤ 1023
  tuning : -100 ≤ s.tuning ∧ s.tuning ≤ 100
  gains : s.masterGain ≤ 1023 ∧ ∀ p : Player, s.directGains[p] ≤ 1023
  mask : s.globalMask.toNat ≤ 3
  samples : ∀ i : Fin 6, -8388608 ≤ s.samples[i] ∧ s.samples[i] ≤ 8388607

/-- Tables, chart offsets and the players' settings. -/
structure SettingsInRange (s : State) : Prop where
  desk : DeskInRange s
  offsets : ∀ n e, -24 ≤ (s.entry n e).offset ∧ (s.entry n e).offset ≤ 48
  player : ∀ p, (s.player p).SettingsInRange

/-! ### Playing: what playing writes -/

/-- The ranges of a player's note and latch entries. -/
structure PlayerState.NotesInRange (ps : PlayerState) : Prop where
  number : ∀ n, ps.note = some n → n.number ≤ 127
  latch : ∀ e ∈ ps.latch, e.InRange

/-- Notes, latch entries and voices. -/
structure PlayingInRange (s : State) : Prop where
  player : ∀ p, (s.player p).NotesInRange
  voice : ∀ v, (s.voice v).InRange

theorem SoundInRange.settings {s : State} (h : SoundInRange s) : SettingsInRange s :=
  ⟨⟨h.tables.setups, h.tables.curves, h.tables.tuning, h.tables.gains, h.masks.1, h.samples⟩, h.tables.offsets,
    fun p => ⟨h.tables.learns p, h.tables.zeroOffset p, h.tables.threshold p, h.level p, h.breath p, h.bend p, h.settle p,
      h.trill p, h.keyCount p, h.masks.2 p⟩⟩

theorem SoundInRange.playing {s : State} (h : SoundInRange s) : PlayingInRange s :=
  ⟨fun p => ⟨fun n hn => (h.note p n hn).1, h.latch p⟩, h.voices⟩

theorem SoundInRange.layersOrdered {s : State} (h : SoundInRange s) : LayersOrdered s := fun p => by
  unfold PlayerState.layerList
  cases current : (s.player p).note with
  | none => exact List.Pairwise.nil
  | some n => exact List.pairwise_map.2 (h.note p n current).2

theorem soundInRange_of {s : State} (settings : SettingsInRange s) (playing : PlayingInRange s)
    (layers : LayersOrdered s) : SoundInRange s where
  tables := ⟨settings.desk.setups, settings.desk.curves, settings.offsets, fun p => (settings.player p).learn,
    settings.desk.tuning, settings.desk.gains, fun p => (settings.player p).zeroOffset,
    fun p => (settings.player p).threshold⟩
  level p := (settings.player p).level
  breath p := (settings.player p).breath
  bend p := (settings.player p).bend
  settle p := (settings.player p).settle
  trill p := (settings.player p).trill
  keyCount p := (settings.player p).keyCount
  masks := ⟨settings.desk.mask, fun p => (settings.player p).maskB⟩
  note p n current := by
    refine ⟨(playing.player p).number n current, ?_⟩
    have ordered := layers p
    rw [PlayerState.layerList, current] at ordered
    exact List.pairwise_map.1 ordered
  latch p := (playing.player p).latch
  voices := playing.voice
  samples := settings.desk.samples

/-! ### Playing keeps the settings -/

theorem DeskInRange.playsOnly {s t : State} (h : DeskInRange s) (k : PlaysOnly s t) : DeskInRange t := by
  rw [k]
  exact ⟨h.setups, h.curves, h.tuning, h.gains, h.mask, h.samples⟩

theorem PlayerState.SettingsInRange.played {a b : PlayerState} (h : a.SettingsInRange) (k : PlayedOnly a b) :
    b.SettingsInRange := by
  rw [k.1]
  exact ⟨h.learn, h.zeroOffset, h.threshold, h.level, h.breath, h.bend, h.settle, h.trill, h.keyCount, h.maskB⟩

theorem SettingsInRange.sounds {s t : State} (h : SettingsInRange s) (k : SoundsOnly s t) : SettingsInRange t where
  desk := h.desk.playsOnly k.playsOnly
  offsets n e := by
    rw [k.1]
    exact h.offsets n e
  player p := (h.player p).played (k.2 p)

/-! ### Notes and the pool -/

theorem PlayerState.NotesInRange.congr {a b : PlayerState} (h : a.NotesInRange) (note : b.note = a.note)
    (latch : b.latch = a.latch) : b.NotesInRange :=
  ⟨by rw [note]; exact h.number, by rw [latch]; exact h.latch⟩

theorem PlayerState.NotesInRange.ended {a b : PlayerState} (h : a.NotesInRange) (note : b.note = none)
    (latch : b.latch = a.latch) : b.NotesInRange :=
  ⟨by simp [note], by rw [latch]; exact h.latch⟩

theorem shrinkStack_inRange (v : VoiceId) {l : List LatchEntry} (h : ∀ e ∈ l, e.InRange) :
    ∀ e ∈ shrinkStack v l, e.InRange := by
  induction l with
  | nil => exact h
  | cons e l ih =>
    obtain ⟨first, rest⟩ := List.forall_mem_cons.1 h
    unfold shrinkStack
    split_ifs with holds emptied
    · exact rest
    · refine List.forall_mem_cons.2 ⟨⟨first.number, first.glide, first.bend, ?_, ?_⟩, rest⟩
      · exact List.length_pos_iff.2 emptied
      · exact List.length_erase_le.trans first.voices.2
    · exact List.forall_mem_cons.2 ⟨first, ih rest⟩

theorem PlayerState.NotesInRange.detached {ps : PlayerState} (h : ps.NotesInRange) (v : VoiceId) (st : VoiceState)
    (held : Nat) : PlayerState.NotesInRange { ps.detached v st with held := held } := by
  cases st with
  | sounding =>
    refine ⟨fun n current => ?_, h.latch⟩
    obtain ⟨m, hm, rfl⟩ := Option.map_eq_some_iff.1 current
    exact h.number m hm
  | latched => exact ⟨h.number, shrinkStack_inRange v h.latch⟩
  | free | releasing | fading => exact ⟨h.number, h.latch⟩

theorem PlayerState.told_latch (ps : PlayerState) (s : State) (v : VoiceId) (u : VoiceUse) (d : Option LatchEntry) :
    (ps.told s v u d).latch = ps.latch := by
  unfold PlayerState.told
  cases d <;> simp

section
variable {s : State} (h : PlayingInRange s)
include h

theorem PlayingInRange.congr {t : State} (k : PlayingKept s t) : PlayingInRange t :=
  ⟨fun p => (h.player p).congr (k.note p) (k.latch p), fun v => by rw [k.voice]; exact h.voice v⟩

theorem PlayingInRange.foldl_modVoice {f : Voice → Voice} (hf : ∀ vo, vo.InRange → (f vo).InRange) (l : List VoiceId) :
    PlayingInRange (l.foldl (fun t v => t.modVoice v f) s) := by
  induction l generalizing s with
  | nil => exact h
  | cons v l ih =>
    refine ih ⟨h.player, fun w => ?_⟩
    rw [State.voice_modVoice]
    split
    · exact hf _ (h.voice v)
    · exact h.voice w

theorem PlayingInRange.of_player {t : State} {p : Player} {ps : PlayerState} (voice : ∀ v, (t.voice v).InRange)
    (players : ∀ q, t.player q = if q = p then ps else s.player q) (notes : ps.NotesInRange) : PlayingInRange t := by
  refine ⟨fun q => ?_, voice⟩
  rw [players]
  split
  · exact notes
  · exact h.player q

theorem PlayingInRange.modPlayer {p : Player} {f : PlayerState → PlayerState} (notes : (f (s.player p)).NotesInRange) :
    PlayingInRange (s.modPlayer p f) := h.of_player h.voice (s.player_modPlayer p · f) notes

theorem PlayingInRange.stealVoice (v : VoiceId) (p : Player) (tag : BitVec 8) (l : LayerId) :
    PlayingInRange (stealVoice v p tag l s) := by
  cases use : (s.voice v).use with
  | none => rw [stealVoice_of_none v p tag l s use]; exact h
  | some u =>
    refine ⟨fun q => ?_, fun w => ?_⟩
    · have seized : ((seizeVoice v u p tag l s).player q).NotesInRange := by
        rw [seizeVoice_player]
        split
        · exact (h.player q).detached ..
        · exact (h.player q).congr rfl rfl
      rw [stealVoice_player v p tag l u s use]
      split
      · exact seized.congr (PlayerState.told_note ..) (PlayerState.told_latch ..)
      · exact seized
    · rw [stealVoice_voice v w p tag l u s use]
      split
      · exact (h.voice v).of_eq rfl (Nat.zero_le _)
      · exact h.voice w

theorem PlayingInRange.answer (settings : SettingsInRange s) (p : Player) {note : Note} (noted : note.number ≤ 127)
    (l : LayerId) (a : Answer) : PlayingInRange (a.apply p note l s) := by
  cases a with
  | grant v rest =>
    refine h.of_player (fun w => ?_) (grantVoice_player v rest p note l s) ((h.player p).congr rfl rfl)
    rw [Answer.apply, grantVoice_voice]
    split
    · exact freshVoice_inRange s p (settings.desk.setups _) noted (settings.player p).bend _ _ _
    · exact h.voice w
  | steal v => exact h.stealVoice v p note.tag l
  | deny =>
    exact h.of_player h.voice (denyLayer_player p note.number l s)
      ((h.player p).congr (PlayerState.placed_note ..) (PlayerState.placed_latch ..))

theorem PlayingInRange.layerRequest (settings : SettingsInRange s) (p : Player) {note : Note}
    (noted : note.number ≤ 127) (l : LayerId) : PlayingInRange (layerRequest p note l s) := by
  have answered := h.answer settings p noted l (poolChoice s p)
  unfold Machine.layerRequest bind
  refine answered.modPlayer ⟨fun n current => ?_, (answered.player p).latch⟩
  obtain ⟨m, hm, rfl⟩ := Option.map_eq_some_iff.1 current
  exact (answered.player p).number m hm

omit h in
theorem PlayingInRange.layerRequests {s : State} (h : PlayingInRange s) (settings : SettingsInRange s) (p : Player)
    {note : Note} (noted : note.number ≤ 127) (ls : List LayerId) :
    PlayingInRange (ls.foldl (fun t l => Machine.layerRequest p note l t) s) := by
  induction ls generalizing s with
  | nil => exact h
  | cons l ls ih => exact ih (h.layerRequest settings p noted l) (settings.sounds (.layerRequest p note l s))

theorem PlayingInRange.onsetDecision (settings : SettingsInRange s) (p : Player) {n : Nat} (noted : n ≤ 127)
    (fl : RangeFlag) : PlayingInRange (onsetDecision p n fl s) := by
  have begun : PlayingInRange (beginNote p (newNote s p n fl) s) := by
    unfold beginNote
    exact h.modPlayer ⟨fun m current => Option.some.inj current ▸ noted, (h.player p).latch⟩
  have requested := begun.layerRequests (settings.sounds (.beginNote s p (newNote s p n fl))) p (note := newNote s p n fl)
    noted (enabledLayers (s.activeSetup p))
  have reported (t : State) : PlayingKept t (reportOnset p (newNote s p n fl) t) :=
    (PlayingKept.report ..).trans (foldl_extends PlayingKept _ .refl .trans _ _ fun u _ _ => .report u p _ _ _ _ _)
  exact requested.congr (reported _)

theorem PlayingInRange.changeDecision (p : Player) {n : Nat} (noted : n ≤ 127) (fl : RangeFlag) :
    PlayingInRange (changeDecision p n fl s) := by
  cases current : (s.player p).note with
  | none => rw [Machine.changeDecision, current]; exact h
  | some note =>
    refine h.of_player (fun v => ?_) (changeDecision_player current n fl) ⟨fun m hm => ?_, fun e he => ?_⟩
    · rw [changeDecision_voice current]
      split
      · exact (h.voice v).retargeted noted
      · exact h.voice v
    · rw [PlayerState.queued_note] at hm
      exact Option.some.inj hm ▸ noted
    · rw [PlayerState.queued_latch] at he
      exact (h.player p).latch e he

theorem PlayingInRange.offDecision (p : Player) (r : OffReason) : PlayingInRange (offDecision p r s) := by
  refine h.of_player (fun v => ?_) (offDecision_player p r s)
    ((h.player p).ended (by rw [PlayerState.queuedAll_note]) (by rw [PlayerState.queuedAll_latch]))
  rw [offDecision_voice]
  exact endedVoice_inRange (h.voice v) _ _

theorem PlayingInRange.updatePitch (settings : SettingsInRange s) (p : Player) : PlayingInRange (updatePitch p s) :=
  h.foldl_modVoice (fun _ hv => hv.frameUpdate _ (settings.player p).bend) _

theorem PlayingInRange.handOff (settings : SettingsInRange s) (p : Player) : PlayingInRange (handOff p s) :=
  h.foldl_modVoice (fun _ hv => hv.takeLevel (settings.player p).level) _

/-! ### The latch stack -/

theorem PlayingInRange.clearStack (p : Player) (r : Nat) : PlayingInRange (clearStack p r s) := by
  refine h.of_player (fun v => ?_) (clearStack_player p r s) ⟨fun n current => ?_, ?_⟩
  · rw [clearStack_voice]
    exact unlatchedVoice_inRange (h.voice v) _ _
  · rw [PlayerState.queuedAll_note] at current
    exact (h.player p).number n current
  · simp

theorem PlayingInRange.makeRoom (p : Player) : PlayingInRange (makeRoom p s) := by
  rcases makeRoom_cases p s with ⟨-, e⟩ | ⟨bottom, es, stack, -, e⟩ <;> rw [e]
  · exact h
  · have released : PlayingInRange (releaseEntry bottom s) := h.foldl_modVoice (fun _ hv => hv.letGo .latched) bottom.voices
    have dropped : PlayingInRange ((releaseEntry bottom s).modPlayer p fun ps => { ps with latch := es }) := by
      refine released.modPlayer ⟨(released.player p).number, fun d hd => ?_⟩
      exact (h.player p).latch d (stack ▸ List.mem_cons_of_mem _ hd)
    exact dropped.congr (.report ..)

end

theorem LayersOrdered.noteVoices_length_le {s : State} (h : LayersOrdered s) (p : Player) :
    (s.noteVoices p).length ≤ 4 := by
  have layers : (s.player p).layerList.length ≤ 4 :=
    List.Nodup.length_le_card ((h p).imp fun below => ne_of_lt below)
  refine le_trans ?_ layers
  unfold State.noteVoices PlayerState.layerList
  cases (s.player p).note with
  | none => exact le_rfl
  | some n =>
    rw [List.length_map]
    exact (List.length_filter_le _ _).trans (List.length_filterMap_le _ _)

theorem latchEntryOf_glide_le {s : State} (h : PlayingInRange s) (p : Player) (note : Note) (l : List VoiceId) :
    (latchEntryOf s p note l).glide ≤ 12700 := by
  cases l with
  | nil => exact Nat.zero_le _
  | cons v l => exact (h.voice v).glide.1

section
variable {s : State} (h : PlayingInRange s) (settings : SettingsInRange s)
include h settings

/-- The push forms an entry in range where the note has a SOUNDING voice (R107, R110). -/
theorem PlayingInRange.latchNote (layers : LayersOrdered s) (p : Player) {note : Note} (noted : note.number ≤ 127)
    (sounds : s.noteVoices p ≠ []) : PlayingInRange (latchNote p note s) := by
  have glide := latchEntryOf_glide_le h p note (s.noteVoices p)
  have entry : (latchEntryOf s p note (s.noteVoices p)).InRange :=
    ⟨noted, glide, (settings.player p).bend, List.length_pos_iff.2 sounds, layers.noteVoices_length_le p⟩
  have frozen := h.foldl_modVoice (fun _ hv => hv.frozen s.tuning glide (settings.player p).bend) (s.noteVoices p)
  have pushed := frozen.modPlayer (p := p)
    (f := fun ps => { ps with latch := ps.latch ++ [latchEntryOf s p note (s.noteVoices p)], note := none })
    ⟨by simp, fun e he => by
      rcases List.mem_append.1 he with old | new
      · exact (frozen.player p).latch e old
      · exact List.mem_singleton.1 new ▸ entry⟩
  have cleared := pushed.foldl_modVoice (f := fun vo => { vo with claim := none }) (fun _ hv => hv.of_eq rfl hv.target)
    (claimedVoices note)
  exact cleared.congr (.report ..)

end

theorem State.noteVoices_congr {s t : State} {p : Player} (note : (t.player p).note = (s.player p).note)
    (sounding : ∀ v, (t.voice v).state = .sounding ↔ (s.voice v).state = .sounding) :
    t.noteVoices p = s.noteVoices p := by
  unfold State.noteVoices
  rw [note]
  cases (s.player p).note with
  | none => rfl
  | some n => exact List.filter_congr fun v _ => by simp [sounding]

theorem letGo_sounding (vo : Voice) : (letGo .latched vo).state = .sounding ↔ vo.state = .sounding := by
  unfold letGo
  split_ifs with latched
  · simp [Voice.released, latched]
  · rfl

theorem releaseEntry_voice (e : LatchEntry) (s : State) (v : VoiceId) :
    (releaseEntry e s).voice v = if v ∈ e.voices then letGo .latched (s.voice v) else s.voice v :=
  foldl_modVoice_voice (letGo .latched) (letGo_idem .latched (by decide)) e.voices s v

/-- Making room does not touch the voices of the current note (R109). -/
theorem makeRoom_noteVoices (p : Player) (s : State) : (makeRoom p s).noteVoices p = s.noteVoices p := by
  refine State.noteVoices_congr (makeRoom_note p s p) fun v => ?_
  rcases makeRoom_cases p s with ⟨-, e⟩ | ⟨bottom, es, -, -, e⟩ <;> rw [e]
  rw [report_voice, State.modPlayer_voice, releaseEntry_voice]
  split
  · exact letGo_sounding _
  · rfl

theorem PlayingInRange.press {s : State} (h : PlayingInRange s) (settings : SettingsInRange s) (layers : LayersOrdered s)
    (p : Player) : PlayingInRange (press p s) := by
  unfold Machine.press
  split
  · next note _ current =>
    split
    · exact h
    · next sounds =>
      have noted := (h.player p).number note current
      have room := settings.sounds (.makeRoom p s)
      have ordered := layers.from (.of_players (makeRoom_note p s))
      have latched := (h.makeRoom p).latchNote room ordered p noted (by rwa [makeRoom_noteVoices])
      exact latched.onsetDecision (room.sounds (.latchNote p note _)) p noted note.flag
  · exact h
  · exact h.clearStack p 1
  · exact h.clearStack p 1
  · exact h.clearStack p 1
  · exact h

end Sys2Proof.Machine


/-!
What keeps the settings in range: the front end and the resolver (R5 to R9, R15, R16, R25 to R29, R40), learns and
charts (R44, R47, R50, R52), the desk's writes (R63 to R71, R146), and the sample period.
-/

namespace Sys2Proof.Machine

/-! ### The front end and the resolver -/

theorem getD_le_of_forall {l : List Nat} {bound : Nat} (h : ∀ x ∈ l, x ≤ bound) (i : Nat) : l.getD i 0 ≤ bound := by
  by_cases hi : i < l.length
  · rw [List.getD_eq_getElem _ _ hi]
    exact h _ (List.getElem_mem hi)
  · rw [List.getD_eq_default _ _ (Nat.le_of_not_lt hi)]
    exact Nat.zero_le _

theorem curveLevel_le {curve : Curve} (points : ∀ i : Fin Config.numPoints, curve[i] ≤ 1023) (n : Nat) :
    curveLevel curve n ≤ 1023 := by
  have bound : ∀ x ∈ curve.toList, x ≤ 1023 := by
    intro x hx
    obtain ⟨i, hi, rfl⟩ := List.getElem_of_mem hx
    rw [Vector.length_toList] at hi
    exact points ⟨i, hi⟩
  have fraction : n % 256 < 256 := Nat.mod_lt _ (by decide)
  have between := (curveLevel_between curve (n / 256) (n % 256) fraction).2.1
  rw [Nat.div_add_mod] at between
  exact between.trans (max_le (getD_le_of_forall bound _) (getD_le_of_forall bound _))

theorem smooth_le {k level goal bound : Nat} (most : k ≤ 16) (hl : level ≤ bound) (hg : goal ≤ bound) :
    smooth k level goal ≤ bound := by
  rcases lt_trichotomy level goal with below | rfl | above
  · exact (smooth_rises most below).2.trans hg
  · rwa [smooth_self]
  · exact (smooth_falls most above).2.le.trans hl

theorem breathStep_inRange (st : Setup) (n : Nat) {b : BreathState} (h : b.InRange) : (breathStep st n b).1.InRange := by
  unfold breathStep
  cases b with
  | quiet =>
    dsimp only
    split_ifs
    · exact ⟨le_rfl, by decide⟩
    · trivial
  | pending count =>
    obtain ⟨least, most⟩ := h
    dsimp only
    split_ifs
    · trivial
    · exact ⟨Nat.le_add_left 1 count, by omega⟩
    · trivial
  | breathing =>
    dsimp only
    split_ifs <;> trivial
  | muted =>
    dsimp only
    split_ifs <;> trivial

theorem trillFrame_inRange {st : Setup} (h : st.InRange) (down : Bool) {ps : PlayerState} (ht : ps.trill.InRange) :
    (trillFrame st down ps).trill.InRange := by
  unfold trillFrame
  dsimp only
  split_ifs
  · unfold trillAdvance
    cases phase : ps.trill with
    | stopped => trivial
    | on left =>
      rw [phase] at ht
      obtain ⟨least, most⟩ := ht
      dsimp only
      split_ifs with last
      · exact h.trillOff
      · exact ⟨by omega, by omega⟩
    | off left =>
      rw [phase] at ht
      obtain ⟨least, most⟩ := ht
      dsimp only
      split_ifs with last
      · exact h.trillOn
      · exact ⟨by omega, by omega⟩
  · exact h.trillOn
  · trivial

theorem settleCountAfter_le (ps : PlayerState) (masked : KeySet) : settleCountAfter ps masked ≤ 15 := by
  unfold settleCountAfter
  split_ifs
  · exact min_le_right _ _
  · exact Nat.zero_le _

theorem biteBend_bounds {depth : Nat} (h : depth ≤ 200) (rest bite : Nat) :
    -200 ≤ biteBend rest depth bite ∧ biteBend rest depth bite ≤ 0 := by
  unfold biteBend
  split_ifs with none
  · decide
  · push Not at none
    obtain ⟨some, -⟩ := none
    have most : (rest - bite) * depth / rest ≤ depth := by
      refine Nat.div_le_of_le_mul ?_
      exact Nat.mul_le_mul_right _ (Nat.sub_le _ _)
    generalize (rest - bite) * depth / rest = fall at most ⊢
    omega

/-! ### Records -/

theorem learnOffset_bounds (biased : BitVec 7) : -24 ≤ learnOffset biased ∧ learnOffset biased ≤ 48 := by
  unfold learnOffset
  omega

theorem PlayedOnly.learnPlaced (a : PlayerState) (learn : Option LearnRecord) (result : LearnResult) :
    PlayedOnly a (a.learnPlaced learn result) := by
  cases learn with
  | none => exact .refl a
  | some r => exact .placed a _

theorem PlayerState.SettingsInRange.unlearned {ps : PlayerState} (h : ps.SettingsInRange) :
    PlayerState.SettingsInRange { ps with learn := none } :=
  ⟨by simp, h.zeroOffset, h.threshold, h.level, h.breath, h.bend, h.settle, h.trill, h.keyCount, h.maskB⟩

/-- An update of the fields that carry no range. -/
theorem PlayerState.SettingsInRange.congr {a b : PlayerState} (h : a.SettingsInRange) (learn : b.learn = a.learn)
    (zeroOffset : b.zeroOffset = a.zeroOffset) (threshold : b.threshold = a.threshold) (level : b.level = a.level)
    (breath : b.breath = a.breath) (bend : b.bend = a.bend) (settle : b.settleCount = a.settleCount)
    (trill : b.trill = a.trill) (keyCount : b.keyCount = a.keyCount) (maskB : b.maskB = a.maskB) : b.SettingsInRange where
  learn := by rw [learn]; exact h.learn
  zeroOffset := by rw [zeroOffset]; exact h.zeroOffset
  threshold := by rw [threshold]; exact h.threshold
  level := by rw [level]; exact h.level
  breath := by rw [breath]; exact h.breath
  bend := by rw [bend]; exact h.bend
  settle := by rw [settle]; exact h.settle
  trill := by rw [trill]; exact h.trill
  keyCount := by rw [keyCount]; exact h.keyCount
  maskB := by rw [maskB]; exact h.maskB

/-! ### States -/

section
variable {s : State} (h : SettingsInRange s)
include h

/-- One player's record is rewritten, and chart entries keep their offsets. -/
theorem SettingsInRange.of_player {t : State} {p : Player} {ps : PlayerState} (plays : PlaysOnly s t)
    (offsets : ∀ n e, (t.entry n e).offset = (s.entry n e).offset)
    (players : ∀ q, t.player q = if q = p then ps else s.player q) (set : ps.SettingsInRange) : SettingsInRange t where
  desk := h.desk.playsOnly plays
  offsets n e := by rw [offsets]; exact h.offsets n e
  player q := by
    rw [players]
    split
    · exact set
    · exact h.player q

theorem SettingsInRange.modPlayer {p : Player} {f : PlayerState → PlayerState}
    (set : (f (s.player p)).SettingsInRange) : SettingsInRange (s.modPlayer p f) :=
  h.of_player (.modPlayer s p f) (fun _ _ => rfl) (s.player_modPlayer p · f) set

/-- An update of fields that carry no range. -/
theorem SettingsInRange.keep {p : Player} {f : PlayerState → PlayerState}
    (frame : (f (s.player p)) = { f (s.player p) with
      learn := (s.player p).learn, zeroOffset := (s.player p).zeroOffset, threshold := (s.player p).threshold,
      level := (s.player p).level, breath := (s.player p).breath, bend := (s.player p).bend,
      settleCount := (s.player p).settleCount, trill := (s.player p).trill, keyCount := (s.player p).keyCount,
      maskB := (s.player p).maskB }) : SettingsInRange (s.modPlayer p f) := by
  refine h.modPlayer ?_
  rw [frame]
  exact (h.player p).congr rfl rfl rfl rfl rfl rfl rfl rfl rfl rfl

theorem SettingsInRange.endLearn (p : Player) (result : LearnResult) (reply : Bool) :
    SettingsInRange (endLearn p result reply s) := by
  refine h.of_player (.endLearn p result reply s) (fun n e => ?_) (endLearn_player p result reply s)
    (((h.player p).unlearned.played (.queuedAll _ _)).played (.learnPlaced _ _ _))
  rw [endLearn_entry]
  split <;> rfl

theorem SettingsInRange.applySetup (p : Player) : SettingsInRange (applySetup p s) := by
  have applied : PlayerState.SettingsInRange { s.player p with active := (s.player p).selected, learn := none } :=
    (h.player p).unlearned.congr rfl rfl rfl rfl rfl rfl rfl rfl rfl rfl
  refine h.of_player (.applySetup p s) (fun n e => ?_) (applySetup_player p s)
    ((applied.played (.queuedAll _ _)).played (.learnPlaced _ _ _))
  rw [applySetup_entry]
  split <;> rfl

theorem SettingsInRange.selectSetup (p : Player) (n : SetupId) : SettingsInRange (selectSetup p n s) := by
  have selected : SettingsInRange (s.modPlayer p fun ps => { ps with selected := n }) := h.keep rfl
  rcases selectSetup_cases p n s with e | e <;> rw [e]
  · exact selected
  · exact selected.applySetup p

theorem SettingsInRange.deferredSetup (p : Player) (before : BreathState) :
    SettingsInRange (deferredSetup p before s) := by
  rcases deferredSetup_cases p before s with e | e <;> rw [e]
  · exact h
  · exact h.applySetup p

theorem SettingsInRange.completeLearn (p : Player) : SettingsInRange (completeLearn p s) := by
  cases pending : (s.player p).learn with
  | none => rw [Machine.completeLearn, pending]; exact h
  | some r =>
    refine ⟨h.desk.playsOnly (.completeLearn p s), fun n e => ?_, fun q => ?_⟩
    · rw [completeLearn_entry pending]
      split
      · exact (h.player p).learn r pending
      · exact h.offsets n e
    · rw [completeLearn_player pending]
      split
      · exact ((h.player p).unlearned.played (.queued _ _)).played (.placed _ _)
      · exact h.player q

omit h in
theorem SettingsInRange.preempt {s : State} (h : SettingsInRange s) (hit : PlayerState → Bool) :
    SettingsInRange (preempt hit s) := by
  unfold Machine.preempt
  generalize allPlayers = l
  induction l generalizing s with
  | nil => exact h
  | cons p l ih =>
    rw [List.foldl_cons]
    split
    · exact ih (h.endLearn p _ _)
    · exact ih h

theorem SettingsInRange.requestLearn (p : Player) (index biased : BitVec 7) :
    SettingsInRange (requestLearn p index biased s) := by
  have refused (r : Reply) : SettingsInRange (placeReply p r s) := h.sounds (.placeReply s p r)
  have accepted (slot : ChartSlot) (e : EntryId) : SettingsInRange (acceptLearn p slot e biased s) := by
    have old := h.player p
    refine h.of_player rfl (fun n d => ?_) (fun q => State.player_modPlayer _ p q _)
      ⟨fun r made => Option.some.inj made ▸ learnOffset_bounds biased, old.zeroOffset, old.threshold, old.level, old.breath,
        old.bend, old.settle, old.trill, old.keyCount, old.maskB⟩
    rw [acceptLearn, State.modPlayer_entry, State.entry_modEntry]
    split
    · next here => rw [here.1, here.2]
    · rfl
  unfold Machine.requestLearn
  dsimp only
  split_ifs
  · exact refused _
  · exact refused _
  · split
    · split_ifs
      · exact accepted _ _
      · exact refused _
    · exact accepted _ _

/-! ### Links and frames -/

theorem SettingsInRange.leaveUp (p : Player) (cause : LostCause) (after : LinkState) :
    SettingsInRange (leaveUp p cause after s) := by
  have old := h.player p
  have left : PlayerState.SettingsInRange ((s.player p).left after) :=
    ⟨by simp [PlayerState.left], old.zeroOffset, old.threshold, old.level, trivial, old.bend, old.settle, trivial,
      old.keyCount, old.maskB⟩
  refine h.of_player (.leaveUp p cause after s) (fun n e => ?_) (leaveUp_player p cause after s)
    ((left.played (.queuedAll _ _)).played (.learnPlaced _ _ _))
  rw [leaveUp_entry]
  split <;> rfl

theorem SettingsInRange.resetReceiver (p : Player) : SettingsInRange (s.modPlayer p PlayerState.resetReceiver) :=
  h.modPlayer { h.player p with keyCount := Nat.zero_le _ }

theorem SettingsInRange.resetPlaying (p : Player) : SettingsInRange (s.modPlayer p PlayerState.resetPlaying) :=
  h.modPlayer { h.player p with
    bend := ⟨by simp [PlayerState.resetPlaying], le_rfl⟩, settle := Nat.zero_le _, trill := trivial }

theorem SettingsInRange.checkSequence (p : Player) (seq : BitVec 4) : SettingsInRange (checkSequence p seq s) := by
  have seen : SettingsInRange (s.modPlayer p fun ps => { ps with seqRef := some seq }) := h.keep rfl
  unfold Machine.checkSequence
  dsimp only
  split
  · exact seen
  · split_ifs
    · exact seen
    · exact seen.keep rfl

theorem SettingsInRange.bringUp (p : Player) (cause : Nat) (seq : BitVec 4) : SettingsInRange (bringUp p cause seq s) := by
  unfold Machine.bringUp
  exact SettingsInRange.sounds (h.keep rfl) (.report ..)

theorem SettingsInRange.frontEnd (p : Player) {raw : Nat} (bound : raw ≤ 4095) : SettingsInRange (frontEnd p raw s) := by
  have old := h.player p
  have setup : (s.activeSetup p).InRange := h.desk.setups _
  refine h.of_player (.frontEnd p raw s) (fun _ _ => rfl) (frontEnd_player p raw s)
    ⟨old.learn, ?_, old.threshold, ?_, breathStep_inRange _ _ old.breath, old.bend, old.settle, old.trill, old.keyCount,
      old.maskB⟩
  · dsimp only [PlayerState.frameZero]
    split_ifs
    · exact bound
    · exact old.zeroOffset
  · exact smooth_le setup.smoothing.2 old.level (curveLevel_le (h.desk.curves _) _)

theorem SettingsInRange.resolverStages (p : Player) (f : SenseFields) (r : BreathReport) :
    SettingsInRange (resolverStages p f r s) := by
  have keyed (onset : Bool) : SettingsInRange (keyStages p f onset s) := by
    have old := h.player p
    have setup : (s.activeSetup p).InRange := h.desk.setups _
    refine h.of_player (.keyStages p f onset s) (fun _ _ => rfl) (keyStages_player p f onset s)
      ⟨old.learn, old.zeroOffset, old.threshold, old.level, old.breath, old.bend, settleCountAfter_le _ _, ?_,
        old.keyCount, old.maskB⟩
    exact trillFrame_inRange setup f.trill (ps := settle _ _ _ _) old.trill
  have bent {t : State} (k : SettingsInRange t) : SettingsInRange (bendStage p f.bite t) := by
    have old := k.player p
    have setup : (t.activeSetup p).InRange := k.desk.setups _
    exact k.of_player (.bendStage p f.bite t) (fun _ _ => rfl) (bendStage_player p f.bite t)
      ⟨old.learn, old.zeroOffset, old.threshold, old.level, old.breath, biteBend_bounds setup.bendDepth _ _, old.settle,
        old.trill, old.keyCount, old.maskB⟩
  unfold Machine.resolverStages
  dsimp only
  split_ifs
  · exact bent ((keyed _).completeLearn p)
  · exact bent (keyed _)

theorem SettingsInRange.frameResolved (p : Player) (f : SenseFields) : SettingsInRange (frameResolved p f s) := by
  have heard : SettingsInRange (s.modPlayer p fun ps => { ps with silence := some 0 }) := h.keep rfl
  have raw : f.breath.toNat ≤ 4095 := Nat.le_of_lt_succ f.breath.isLt
  exact ((heard.selectSetup p f.setup).frontEnd p raw).resolverStages p f _

theorem SettingsInRange.takeHello (p : Player) (f : FrameBody) : SettingsInRange (takeHello p f s) := by
  have counted {t : State} (k : SettingsInRange t) : SettingsInRange (takeKeyCount p f.c1 t) := by
    have old := k.player p
    exact k.modPlayer ⟨old.learn, old.zeroOffset, old.threshold, old.level, old.breath, old.bend, old.settle, old.trill,
      min_le_right _ _, old.maskB⟩
  unfold Machine.takeHello
  split
  · exact counted (h.checkSequence p f.seq)
  · exact (counted h).bringUp p 1 f.seq
  · exact (counted h).bringUp p 1 f.seq

theorem SettingsInRange.takeLearnReq (p : Player) (f : FrameBody) : SettingsInRange (takeLearnReq p f s) := by
  unfold Machine.takeLearnReq
  split
  · exact h
  · exact (h.checkSequence p f.seq).requestLearn p f.c1 f.c2
  · exact h.sounds ((SoundsOnly.report ..).trans (.placeReply ..))

end

/-! ### Setups (R63 to R71) -/

theorem overrideOf_inRange (x : Half) : (overrideOf x).inRange := by
  unfold overrideOf
  split_ifs
  · exact clampInt_mem (by decide)
  · exact min_le_right _ _

theorem clampNat_mem {lo hi : Nat} (h : lo ≤ hi) (x : Nat) : lo ≤ clampNat lo hi x ∧ clampNat lo hi x ≤ hi := by
  unfold clampNat
  split_ifs <;> omega

theorem Setup.InRange.writeHalf {st : Setup} (h : st.InRange) (off : Nat) (x : Half) : (st.writeHalf off x).InRange := by
  have step : 1 ≤ max 1 x.toNat ∧ max 1 x.toNat ≤ 65535 := by omega
  unfold Setup.writeHalf
  split
  · exact { h with override1 := overrideOf_inRange x }
  · exact { h with override2 := overrideOf_inRange x }
  · exact { h with override3 := overrideOf_inRange x }
  · exact { h with onset := clampNat_mem (by decide) _ }
  · exact { h with release := min_le_right _ _ }
  · exact { h with riseStep := step }
  · exact { h with fallStep := step }
  · exact { h with releaseStep := step }
  · exact h

theorem Layer.InRange.write {l : Layer} (h : l.InRange) (i : Nat) (v : Byte) : (l.write i v).InRange := by
  unfold Layer.write
  split
  · exact { h with }
  · exact { h with interval := clampInt_mem (by decide) }
  · exact { h with detune := clampInt_mem (by decide) }
  · exact { h with }
  · exact { h with }
  · exact { h with }
  · exact { h with gain := min_le_right _ _ }
  · exact { h with pan := min_le_right _ _ }

theorem Setup.InRange.writePlain {st : Setup} (h : st.InRange) (off : Nat) (v : Byte) :
    (st.writePlain off v).InRange := by
  have frames : 1 ≤ max 1 v.toNat ∧ max 1 v.toNat ≤ 255 := by omega
  unfold Setup.writePlain
  split
  iterate 7 exact { h with }
  · exact { h with trillOn := frames }
  · exact { h with trillOff := frames }
  · exact { h with settleWindow := min_le_right _ _ }
  · exact { h with }
  · exact { h with baseNote := min_le_right _ _ }
  · exact { h with transpose := clampInt_mem (by decide) }
  · exact { h with range := ⟨min_le_right _ _, h.range.2⟩ }
  · exact { h with range := ⟨h.range.1, min_le_right _ _⟩ }
  · exact { h with }
  · exact { h with smoothing := clampNat_mem (by decide) _ }
  · exact { h with biteRest := min_le_right _ _ }
  · exact { h with bendDepth := min_le_right _ _ }
  · exact { h with glideStep := Nat.le_of_lt_succ v.isLt }
  · exact h

theorem Setup.InRange.writeByte {st : Setup} (h : st.InRange) (off : Nat) (v : Byte) : (st.writeByte off v).InRange := by
  unfold Setup.writeByte
  split_ifs
  · refine { h with layers := fun l => ?_ }
    rcases eq_or_ne l (layerAt off) with rfl | other
    · simpa using (h.layers _).write _ v
    · have apart : (layerAt off).val ≠ l.val := fun e => other (Fin.ext e.symm)
      simpa [apart] using h.layers l
  · exact h.writePlain off v

/-! ### Every operation -/

theorem writePoint_point (n d : CurveId) (i j : Fin Config.numPoints) (x : Half) (s : State) :
    (writePoint n i x s).curves[d][j] = if d = n ∧ j = i then min x.toNat 1023 else s.curves[d][j] := by
  unfold writePoint
  rcases eq_or_ne d n with rfl | otherCurve
  · rcases eq_or_ne j i with rfl | other
    · simp
    · have apart : i.val ≠ j.val := fun e => other (Fin.ext e.symm)
      simp [apart, other]
  · have apart : n.val ≠ d.val := fun e => otherCurve (Fin.ext e.symm)
    simp [apart, otherCurve]

theorem samples_saturated (x : Int) : -8388608 ≤ saturate x ∧ saturate x ≤ 8388607 := clampInt_mem (by decide)

theorem referenceChart_offset (e : EntryId) : -24 ≤ (referenceChart[e]).offset ∧ (referenceChart[e]).offset ≤ 48 := by
  revert e
  decide

theorem State.reset_offset (n : ChartSlot) (e : EntryId) :
    -24 ≤ (State.reset.entry n e).offset ∧ (State.reset.entry n e).offset ≤ 48 := by
  change -24 ≤ (powerOnCharts[n][e]).offset ∧ (powerOnCharts[n][e]).offset ≤ 48
  revert n e
  decide

theorem PlayerState.reset_settings : PlayerState.reset.SettingsInRange :=
  ⟨by simp [PlayerState.reset], by decide, by decide, by decide, trivial, by decide, by decide, trivial, by decide, by decide⟩

theorem linearCurve_le (j : Fin Config.numPoints) : linearCurve[j] ≤ 1023 := by
  revert j
  decide

theorem SettingsInRange.reset : SettingsInRange State.reset where
  desk :=
    { setups := fun n => by
        have default : State.reset.setup n = defaultSetup := by simp [State.reset, State.setup]
        rw [default]
        exact defaultSetup_inRange
      curves := fun c j => by
        have linear : State.reset.curves[c] = linearCurve := by simp [State.reset]
        rw [linear]
        exact linearCurve_le j
      tuning := by decide
      gains := ⟨by decide, by decide⟩
      mask := by decide
      samples := by decide }
  offsets := State.reset_offset
  player p := by
    rw [State.reset_player]
    exact PlayerState.reset_settings

theorem SettingsInRange.panicAll {s : State} (h : SettingsInRange s) : SettingsInRange (panicAll s) := by
  refine ⟨h.desk.playsOnly (.panicAll s), fun n e => ?_, fun p => ?_⟩
  · rw [panicAll_eq]
    exact h.offsets n e
  · have old := h.player p
    have breath : BreathState.InRange (if (s.player p).breath = .quiet then .quiet else .muted) := by
      split_ifs <;> trivial
    rw [panicAll_player, panicRecord]
    refine PlayerState.SettingsInRange.played ?_ (.queuedAll _ _)
    exact { old with breath := breath }

theorem SettingsInRange.freeVoice {s : State} (h : SettingsInRange s) (v : VoiceId) : SettingsInRange (freeVoice v s) := by
  refine ⟨h.desk.playsOnly (.freeVoice v s), fun n e => ?_, fun p => ?_⟩
  · rw [freeVoice_eq]
    exact h.offsets n e
  · rw [freeVoice_player]
    split
    · exact { h.player p with }
    · exact h.player p

theorem TableWrite.settingsInRange {s t : State} (h : SettingsInRange s) (w : TableWrite s t) : SettingsInRange t := by
  have desk := h.desk
  have setupWritten (n : SetupId) {f : Setup → Setup} (hf : (f (s.setup n)).InRange) :
      SettingsInRange (s.modSetup n f) := by
    refine ⟨{ desk with setups := fun m => ?_ }, h.offsets, h.player⟩
    rw [State.setup_modSetup]
    split
    · exact hf
    · exact desk.setups m
  have named (v : Byte) : (v &&& 0x03).toNat ≤ 3 := by
    rw [BitVec.toNat_and]
    exact Nat.and_le_right
  cases w with
  | tuning v => exact ⟨{ desk with tuning := clampInt_mem (by decide) }, h.offsets, h.player⟩
  | mask v => exact ⟨{ desk with mask := named v }, h.offsets, h.player⟩
  | mode v => exact ⟨{ desk with }, h.offsets, h.player⟩
  | polarity v => exact ⟨{ desk with }, h.offsets, h.player⟩
  | masterGain x => exact ⟨{ desk with gains := ⟨min_le_right _ _, desk.gains.2⟩ }, h.offsets, h.player⟩
  | directGain p x =>
    refine ⟨{ desk with gains := ⟨desk.gains.1, fun q => ?_⟩ }, h.offsets, h.player⟩
    rcases eq_or_ne q p with rfl | other
    · simp [gainOf]
    · have apart : p.val ≠ q.val := fun e => other (Fin.ext e.symm)
      simpa [apart] using desk.gains.2 q
  | setupHalf n k x => exact setupWritten n ((desk.setups n).writeHalf k x)
  | setupByte n off v => exact setupWritten n ((desk.setups n).writeByte off v)
  | point c i x =>
    refine ⟨{ desk with curves := fun d j => ?_ }, h.offsets, h.player⟩
    rw [writePoint_point]
    split
    · exact min_le_right _ _
    · exact desk.curves d j
  | wave n j x => exact ⟨{ desk with }, h.offsets, h.player⟩
  | clips => exact ⟨{ desk with }, h.offsets, h.player⟩

end Sys2Proof.Machine


/-!
Every operation keeps the ranges: settings, playing and layer order together.
-/

namespace Sys2Proof.Machine

/-! ### The frame and every operation -/

/-- A resolved note is a note number (R38, R39). -/
theorem resolution_number {s : State} (h : SettingsInRange s) {p : Player} {contact : BitVec 2} {n : Nat}
    {fl : RangeFlag} (matched : resolution s p contact = .matched n fl) : n ≤ 127 := by
  unfold resolution at matched
  cases sum : noteSum s p contact with
  | none =>
    rw [sum] at matched
    cases matched
  | some x =>
    rw [sum] at matched
    obtain ⟨m, flag, fitted, -, high, -⟩ := noteSumsFoldOrClampIntoRange (s.activeSetup p) x
    obtain ⟨rfl, rfl⟩ := Resolution.matched.inj (matched.symm.trans fitted)
    have range := (h.desk.setups (s.player p).active).range
    change ((s.activeSetup p).rangeLow ≤ 127 ∧ (s.activeSetup p).rangeHigh ≤ 127) at range
    omega

/-- A note begins, or moves, at the resolved number (R85). -/
theorem decisionFor_matched {r : BreathReport} {b : BreathState} {res : Resolution} {policy : Policy}
    {note : Option Note} {n : Nat} {f : RangeFlag}
    (h : decisionFor r b res policy note = .onset n f ∨ decisionFor r b res policy note = .change n f) :
    res = .matched n f := by
  unfold decisionFor at h
  split at h
  · simpa using h
  · simp at h
  · simp at h
  · simp at h
  · split_ifs at h
    · simpa using h
    · simp at h
  · split_ifs at h
    · simpa using h
    · simp at h
  · split_ifs at h <;> simp at h
  · simp at h

/-- All that `SoundInRange` says, its three parts apart. -/
structure Ranged (s : State) : Prop where
  settings : SettingsInRange s
  playing : PlayingInRange s
  layers : LayersOrdered s

theorem Ranged.kept {s t : State} (h : Ranged s) (settings : SettingsInRange t) (kept : PlayingKept s t) : Ranged t :=
  ⟨settings, h.playing.congr kept, h.layers.from kept.layersFrom⟩

theorem Ranged.sounds {s t : State} (h : Ranged s) (sounds : SoundsOnly s t) (playing : PlayingInRange t)
    (layers : LayersFrom s t) : Ranged t := ⟨h.settings.sounds sounds, playing, h.layers.from layers⟩

theorem Ranged.acceptSense {s : State} (h : Ranged s) (p : Player) (seq : BitVec 4) (f : SenseFields) :
    Ranged (acceptSense p seq f s) := by
  have resolved : Ranged (frameResolved p f s) := h.kept (h.settings.frameResolved p f) (.frameResolved p f s)
  have decided : Ranged (frameDecided p f s) := by
    refine resolved.sounds (.decide ..) ?_ (.decide ..)
    unfold frameDecided decide
    cases taken : decisionFor (frameReport p f s) ((frameResolved p f s).player p).breath
      (resolution (frameResolved p f s) p f.contact) ((frameResolved p f s).activeSetup p).policy
      ((frameResolved p f s).player p).note with
    | none => exact resolved.playing
    | onset n fl =>
      exact resolved.playing.onsetDecision resolved.settings p
        (resolution_number resolved.settings (decisionFor_matched (.inl taken))) fl
    | change n fl =>
      exact resolved.playing.changeDecision p
        (resolution_number resolved.settings (decisionFor_matched (.inr taken))) fl
    | off reason => exact resolved.playing.offDecision p reason
  have pitched : Ranged (updatePitch p (frameDecided p f s)) :=
    decided.sounds (.updatePitch p _) (decided.playing.updatePitch decided.settings p) (.foldl_modVoice ..)
  have latched : Ranged (latchButton p f.latch (updatePitch p (frameDecided p f s))) := by
    have seen : Ranged ((updatePitch p (frameDecided p f s)).modPlayer p fun ps => { ps with latchSeen := f.latch }) :=
      pitched.kept (pitched.settings.keep rfl) (.modPlayer rfl rfl rfl)
    unfold latchButton
    dsimp only
    split_ifs
    · exact seen.sounds (.press p _) (seen.playing.press seen.settings seen.layers p) (.press p _)
    · exact seen
  have handed : Ranged (frameHanded p f s) :=
    latched.sounds (.handOff p _) (latched.playing.handOff latched.settings p) (.foldl_modVoice ..)
  have applied := handed.kept (handed.settings.deferredSetup p ((frameSelected p f s).player p).breath) (.deferredSetup ..)
  rw [acceptSense_eq, openSlot_eq]
  exact applied.kept (applied.settings.keep rfl) (.modPlayer rfl rfl rfl)

theorem Ranged.takeSense {s : State} (h : Ranged s) (p : Player) (f : FrameBody) : Ranged (takeSense p f s) := by
  unfold Machine.takeSense
  split
  · exact h
  · exact Ranged.acceptSense (h.kept (h.settings.checkSequence p f.seq) (.checkSequence ..)) p _ _
  · exact Ranged.acceptSense (h.kept (h.settings.bringUp p 2 f.seq) (.bringUp ..)) p _ _

theorem LayersOrdered.of_silent {s : State} (note : ∀ p, (s.player p).note = none) : LayersOrdered s := fun p => by
  rw [PlayerState.layerList, note]
  exact List.Pairwise.nil

theorem Ranged.leaveUp {s : State} (h : Ranged s) (p : Player) (cause : LostCause) (after : LinkState) :
    Ranged (leaveUp p cause after s) := by
  have note : ((((s.player p).left after).queuedAll (leaveRecords s p cause.code)).learnPlaced
      (if cause = .disabled then (s.player p).learn else none) .cancelled).note = none := by
    rw [PlayerState.learnPlaced_note, PlayerState.queuedAll_note]
    rfl
  refine ⟨h.settings.leaveUp p cause after, ?_, h.layers.from (.of_player (leaveUp_player p cause after s) (.inr note))⟩
  refine h.playing.of_player (fun v => ?_) (leaveUp_player p cause after s) ⟨by simp [note], ?_⟩
  · rw [leaveUp_voice]
    exact unlatchedVoice_inRange (endedVoice_inRange (h.playing.voice v) _ _) _ _
  · rw [PlayerState.learnPlaced_latch, PlayerState.queuedAll_latch]
    simp [PlayerState.left]

theorem Ranged.writeLinkEnable {s : State} (h : Ranged s) (p : Player) (v : Byte) : Ranged (writeLinkEnable p v s) := by
  unfold Machine.writeLinkEnable disableLink enableLink
  dsimp only
  split_ifs
  · exact h
  · exact h.kept (h.settings.keep rfl) (.modPlayer rfl rfl rfl)
  · exact Ranged.leaveUp (h.kept (h.settings.keep rfl) (.modPlayer rfl rfl rfl)) p _ _
  · exact h.kept (h.settings.keep rfl) (.modPlayer rfl rfl rfl)

theorem Ranged.resetLink {s : State} (h : Ranged s) (p : Player) : Ranged (resetLink p s) := by
  have reset : Ranged (s.modPlayer p PlayerState.resetReceiver) :=
    h.kept (h.settings.resetReceiver p) (.modPlayer rfl rfl rfl)
  have played {t : State} (k : Ranged t) : Ranged (t.modPlayer p PlayerState.resetPlaying) :=
    k.kept (k.settings.resetPlaying p) (.modPlayer rfl rfl rfl)
  unfold Machine.resetLink
  dsimp only
  split_ifs
  · exact played (reset.leaveUp p _ _)
  · exact played reset

theorem Ranged.freeVoice {s : State} (h : Ranged s) (v : VoiceId) : Ranged (freeVoice v s) := by
  refine ⟨h.settings.freeVoice v, ⟨fun p => ?_, fun w => ?_⟩, h.layers.from (.of_players fun p => ?_)⟩
  · rw [freeVoice_player]
    split
    · exact (h.playing.player p).congr rfl rfl
    · exact h.playing.player p
  · rw [freeVoice_voice]
    split
    · exact (h.playing.voice v).of_eq rfl (h.playing.voice v).target
    · exact h.playing.voice w
  · rw [freeVoice_player]
    split <;> rfl

theorem Ranged.handOver {s : State} (h : Ranged s) (v : VoiceId) (c : Claim) {note : Note}
    (current : (s.player c.player).note = some note) : Ranged (handOver v c note s) := by
  have noted := (h.playing.player c.player).number note current
  refine ⟨⟨h.settings.desk.playsOnly (handOver_eq ..), h.settings.offsets, fun q => ?_⟩, ⟨fun q => ?_, fun w => ?_⟩,
    h.layers.from ⟨fun q => .inl ?_⟩⟩
  · rw [handOver_player]
    split
    · exact { h.settings.player q with }
    · exact h.settings.player q
  · rw [handOver_player]
    split
    · refine ⟨fun n hn => ?_, (h.playing.player q).latch⟩
      obtain ⟨m, hm, rfl⟩ := Option.map_eq_some_iff.1 hn
      exact (h.playing.player q).number m hm
    · exact h.playing.player q
  · rw [handOver_voice]
    split
    · exact freshVoice_inRange s c.player (h.settings.desk.setups _) noted (h.settings.player _).bend _ _ _
    · exact h.playing.voice w
  · rw [handOver_player]
    split
    · exact PlayerState.layerList_of_map _ (Binding.handOver_layer v) rfl
    · rfl

theorem Ranged.takeFadeEnd {s : State} (h : Ranged s) (v : VoiceId) : Ranged (takeFadeEnd v s) := by
  unfold Machine.takeFadeEnd
  split
  · exact h.freeVoice v
  · split
    · exact h.freeVoice v
    · next current => exact h.handOver v _ current

theorem Ranged.renderPeriod {s : State} (h : Ranged s) : Ranged (renderPeriod s) := by
  have desk := h.settings.desk
  have counted (ps : PlayerState) : ps.countSilence.note = ps.note ∧ ps.countSilence.latch = ps.latch := by
    rw [PlayerState.countSilence_eq]
    exact ⟨rfl, rfl⟩
  refine ⟨⟨{ desk with samples := fun i => ?_ }, h.settings.offsets, fun p => ?_⟩, ⟨fun p => ?_, fun v => ?_⟩,
    h.layers.from (.of_players fun p => ?_)⟩
  · simpa [Machine.renderPeriod, State.modPlayers] using samples_saturated _
  · rw [renderPeriod_player, PlayerState.countSilence_eq]
    exact { h.settings.player p with }
  · rw [renderPeriod_player]
    exact (h.playing.player p).congr (counted _).1 (counted _).2
  · rw [renderPeriod_voice]
    exact (h.playing.voice v).rendered
  · rw [renderPeriod_player]
    exact (counted _).1

theorem Ranged.softResetAll {s : State} (h : Ranged s) : Ranged (softResetAll s) := by
  refine ⟨⟨{ h.settings.desk with }, fun n e => ?_, fun p => ?_⟩, ⟨fun p => ?_, fun v => ?_⟩, .of_silent fun p => ?_⟩
  · rw [softResetAll_entry]
    exact h.settings.offsets n e
  · rw [softResetAll_player]
    have old := h.settings.player p
    exact { PlayerState.reset_settings with
      zeroOffset := old.zeroOffset, threshold := old.threshold, maskB := old.maskB }
  · rw [softResetAll_player]
    exact ⟨by simp [PlayerState.softReset, PlayerState.reset], by simp [PlayerState.softReset, PlayerState.reset]⟩
  · rw [softResetAll_voice]
    exact resetVoice_inRange
  · rw [softResetAll_player]
    rfl

theorem Ranged.keeps {s t : State} (h : Ranged s) {p : Player} (k : Keeps p s t) : Ranged t := by
  refine h.kept ?_ k.playingKept
  obtain ⟨ps, kept, rfl⟩ := k
  have old := h.settings.player p
  have frame := kept.frame
  refine h.settings.modPlayer ⟨?_, ?_, ?_, ?_, ?_, ?_, ?_, ?_, ?_, ?_⟩
  · rw [frame]; exact old.learn
  · exact kept.zeroOffset.elim (fun same => by rw [same]; exact old.zeroOffset) id
  · exact kept.threshold.elim (fun same => by rw [same]; exact old.threshold) id
  · rw [frame]; exact old.level
  · rw [frame]; exact old.breath
  · rw [frame]; exact old.bend
  · rw [frame]; exact old.settle
  · rw [frame]; exact old.trill
  · rw [frame]; exact old.keyCount
  · exact kept.maskB.elim (fun same => by rw [same]; exact old.maskB) id

/-- Chart entries in range are written, and learns are preempted. -/
theorem Ranged.preempt {s u : State} (h : Ranged s) (hit : PlayerState → Bool) (u_eq : u = { s with charts := u.charts })
    (offsets : ∀ n e, -24 ≤ (u.entry n e).offset ∧ (u.entry n e).offset ≤ 48) : Ranged (preempt hit u) := by
  have players (p : Player) : u.player p = s.player p := by rw [u_eq]; rfl
  have kept : PlayingKept s u :=
    ⟨fun v => by rw [u_eq]; rfl, by rw [u_eq], fun p => by rw [players], fun p => by rw [players],
      fun p => by rw [players]⟩
  have written : SettingsInRange u :=
    ⟨h.settings.desk.playsOnly (by unfold PlaysOnly; rw [u_eq]), offsets, fun p => players p ▸ h.settings.player p⟩
  exact h.kept (written.preempt hit) (.preempt hit kept)

theorem TableWrite.playing {s t : State} (h : Ranged s) (w : TableWrite s t) : PlayingInRange t := by
  cases w with
  | tuning v =>
    refine ⟨h.playing.player, fun w => ?_⟩
    have written : (writeTuning v s).voice w =
        if (s.voice w).state = .free then s.voice w else (s.voice w).retune (tuningOf v) := by
      simp only [writeTuning, State.voice_modVoices]
      rfl
    rw [written]
    split_ifs
    · exact h.playing.voice w
    · exact (h.playing.voice w).retune _
  | mask | mode | polarity | masterGain | directGain | setupHalf | setupByte | point | wave | clips =>
    exact ⟨h.playing.player, h.playing.voice⟩

theorem Ranged.panicAll {s : State} (h : Ranged s) : Ranged (panicAll s) := by
  have note (p : Player) : ((Machine.panicAll s).player p).note = none := by
    rw [panicAll_player, panicRecord, PlayerState.queuedAll_note]
  refine ⟨h.settings.panicAll, ⟨fun p => ⟨by simp [note], ?_⟩, fun v => ?_⟩, .of_silent note⟩
  · rw [panicAll_player, panicRecord, PlayerState.queuedAll_latch]
    simp
  · rw [panicAll_voice]
    exact (h.playing.voice v).panicked

theorem Ranged.reset : Ranged State.reset := by
  refine ⟨.reset, ⟨fun p => ?_, fun v => ?_⟩, .of_silent fun p => ?_⟩
  · rw [State.reset_player]
    exact ⟨by simp [PlayerState.reset], by simp [PlayerState.reset]⟩
  · rw [State.reset_voice]
    exact resetVoice_inRange
  · rw [State.reset_player]
    rfl

theorem Effects.ranged {s t : State} (h : Ranged s) (effects : Effects s t) : Ranged t := by
  have cleared (p : Player) : Ranged (clearReceived p s) := h.kept (h.settings.keep rfl) (.clearReceived p s)
  cases effects with
  | idle => exact h
  | powerOn =>
    obtain ⟨settings, playing, layers⟩ := Ranged.reset
    exact ⟨⟨{ settings.desk with }, settings.offsets, settings.player⟩, ⟨playing.player, playing.voice⟩, layers⟩
  | samplePeriod => exact h.renderPeriod
  | fadeEnd v => exact h.takeFadeEnd v
  | releaseEnd v => exact h.freeVoice v
  | learnTimeout p => exact h.kept (h.settings.endLearn p _ _) (.endLearn ..)
  | silenceTimeout p due =>
    have flagged : Ranged (raiseFlag p linkLost s) := h.kept (h.settings.keep rfl) (.raiseFlag ..)
    exact Ranged.leaveUp (flagged.kept (flagged.settings.keep rfl) (.modPlayer rfl rfl rfl)) p _ _
  | sense p f stands => exact (cleared p).takeSense p f
  | hello p f stands => exact (cleared p).kept ((cleared p).settings.takeHello p f) (.takeHello ..)
  | learnReq p f stands => exact (cleared p).kept ((cleared p).settings.takeLearnReq p f) (.takeLearnReq ..)
  | keeps p k => exact h.keeps k
  | softReset => exact h.softResetAll
  | panic => exact h.panicAll
  | restore n =>
    refine h.preempt _ rfl fun m e => ?_
    rw [restoreChart_image]
    split
    · exact referenceChart_offset e
    · exact h.settings.offsets m e
  | linkReset p => exact h.resetLink p
  | linkEnable p v => exact h.writeLinkEnable p v
  | entryFlags n e hold v =>
    refine h.preempt _ rfl fun m d => ?_
    rw [State.entry_modEntry]
    split
    · exact clampInt_mem (by decide)
    · exact h.settings.offsets m d
  | reserve p | ceiling p => exact h.kept (h.settings.keep rfl) (.modPlayer rfl rfl rfl)
  | table w =>
    refine ⟨w.settingsInRange h.settings, w.playing h, h.layers.from ?_⟩
    cases w <;> exact .of_players fun _ => rfl

/-- Settles O10: settings, playing and layer order keep their ranges through every operation. -/
theorem stepKeepsSoundInRange : Obligations.StepKeepsSoundInRange := by
  intro s t h run
  have ranged : Ranged t := step_keeps (I := Ranged)
    (fun s t e k => by rw [e]; exact ⟨⟨{ k.settings.desk with }, k.settings.offsets, k.settings.player⟩,
      ⟨k.playing.player, k.playing.voice⟩, k.layers⟩)
    (fun _ _ => Effects.ranged) ⟨h.settings, h.playing, h.layersOrdered⟩ run
  exact soundInRange_of ranged.settings ranged.playing ranged.layers

end Sys2Proof.Machine


/-! The steal searches of spec/05 (R90, R92, R93): each search takes the first voice of a strict order on its
candidates. -/

namespace Sys2Proof.Machine

/-! ### The first element of a strict order -/

/-- What makes "the element that goes before all others" unique: a total and transitive order without ties. -/
structure Ranks (before : VoiceId → VoiceId → Bool) : Prop where
  irrefl : ∀ v, before v v = false
  trans : ∀ {u v w}, before u v = true → before v w = true → before u w = true
  total : ∀ v w, v ≠ w → before v w = true ∨ before w v = true

theorem pickBy_eq_none_iff (before : VoiceId → VoiceId → Bool) (vs : List VoiceId) :
    pickBy before vs = none ↔ vs = [] := by
  cases vs with
  | nil => simp [pickBy]
  | cons v vs =>
    simp only [pickBy, reduceCtorEq, iff_false]
    split
    · simp
    · split <;> simp

/-- The chosen element is in the list and goes before every other one. -/
theorem Ranks.pickBy_first {before : VoiceId → VoiceId → Bool} (h : Ranks before) {vs : List VoiceId} {v : VoiceId}
    (hv : pickBy before vs = some v) : v ∈ vs ∧ ∀ w ∈ vs, w = v ∨ before v w = true := by
  induction vs generalizing v with
  | nil => simp [pickBy] at hv
  | cons x xs ih =>
    simp only [pickBy] at hv
    split at hv
    next none_left =>
      rw [pickBy_eq_none_iff] at none_left
      obtain rfl : x = v := by simpa using hv
      simp [none_left]
    next y picked =>
      obtain ⟨mem, first⟩ := ih picked
      split at hv
      next x_first =>
        obtain rfl : x = v := by simpa using hv
        refine ⟨.head _, fun w hw => ?_⟩
        rcases List.mem_cons.1 hw with rfl | hw
        · exact .inl rfl
        · rcases first w hw with rfl | y_first
          · exact .inr x_first
          · exact .inr (h.trans x_first y_first)
      next x_after =>
        obtain rfl : y = v := by simpa using hv
        refine ⟨.tail _ mem, fun w hw => ?_⟩
        rcases List.mem_cons.1 hw with rfl | hw
        · by_cases same : w = y
          · exact .inl same
          · exact .inr ((h.total w y same).resolve_left x_after)
        · exact first w hw

theorem Ranks.pickBy_eq_some_iff {before : VoiceId → VoiceId → Bool} (h : Ranks before) (vs : List VoiceId)
    (v : VoiceId) : pickBy before vs = some v ↔ v ∈ vs ∧ ∀ w ∈ vs, w = v ∨ before v w = true := by
  refine ⟨h.pickBy_first, fun ⟨mem, first⟩ => ?_⟩
  cases picked : pickBy before vs with
  | none =>
    rw [pickBy_eq_none_iff] at picked
    simp [picked] at mem
  | some u =>
    obtain ⟨u_mem, u_first⟩ := h.pickBy_first picked
    rcases first u u_mem with rfl | v_before
    · rfl
    · rcases u_first v mem with rfl | u_before
      · rfl
      · exact absurd (h.trans v_before u_before) (by simp [h.irrefl])

theorem State.older_iff (s : State) (v w : VoiceId) :
    s.older v w = true ↔ s.age w < s.age v ∨ s.age v = s.age w ∧ v.val < w.val := by
  simp [State.older]

theorem State.quieter_iff (s : State) (v w : VoiceId) :
    s.quieter v w = true ↔ (s.voice v).amplitude < (s.voice w).amplitude ∨
      (s.voice v).amplitude = (s.voice w).amplitude ∧
        (s.age w < s.age v ∨ s.age v = s.age w ∧ v.val < w.val) := by
  simp [State.quieter, State.older_iff]

theorem State.older_ranks (s : State) : Ranks s.older where
  irrefl v := by simp [State.older]
  trans := by
    intro u v w huv hvw
    rw [State.older_iff] at *
    omega
  total v w distinct := by
    have : v.val ≠ w.val := fun h => distinct (Fin.ext h)
    simp only [State.older_iff]
    omega

theorem State.quieter_ranks (s : State) : Ranks s.quieter where
  irrefl v := by simp [State.quieter, State.older]
  trans := by
    intro u v w huv hvw
    rw [State.quieter_iff] at *
    omega
  total v w distinct := by
    have : v.val ≠ w.val := fun h => distinct (Fin.ext h)
    simp only [State.quieter_iff]
    omega

theorem oldestOf_iff (s : State) (P : VoiceId → Prop) (v : VoiceId) :
    OldestOf s P v ↔ P v ∧ ∀ w, P w → w = v ∨ s.older v w = true := by
  simp only [OldestOf, State.older_iff, Fin.ext_iff, Fin.le_def]
  constructor <;>
  · rintro ⟨hv, first⟩
    refine ⟨hv, fun w hw => ?_⟩
    have := first w hw
    by_cases same : v = w
    · subst same; simp
    · have : v.val ≠ w.val := fun h => same (Fin.ext h)
      omega

theorem quietestOf_iff (s : State) (P : VoiceId → Prop) (v : VoiceId) :
    QuietestOf s P v ↔ P v ∧ ∀ w, P w → w = v ∨ s.quieter v w = true := by
  simp only [QuietestOf, State.quieter_iff, Fin.ext_iff, Fin.le_def]
  constructor <;>
  · rintro ⟨hv, first⟩
    refine ⟨hv, fun w hw => ?_⟩
    have := first w hw
    by_cases same : v = w
    · subst same; simp
    · have : v.val ≠ w.val := fun h => same (Fin.ext h)
      omega

/-- A pick by age takes exactly the oldest of the voices listed. -/
theorem pickBy_older_iff (s : State) (vs : List VoiceId) (P : VoiceId → Prop) (listed : ∀ w, w ∈ vs ↔ P w)
    (v : VoiceId) : pickBy s.older vs = some v ↔ OldestOf s P v := by
  simp only [s.older_ranks.pickBy_eq_some_iff, oldestOf_iff, listed]

/-- A pick by amplitude takes exactly the quietest of the voices listed. -/
theorem pickBy_quieter_iff (s : State) (vs : List VoiceId) (P : VoiceId → Prop) (listed : ∀ w, w ∈ vs ↔ P w)
    (v : VoiceId) : pickBy s.quieter vs = some v ↔ QuietestOf s P v := by
  simp only [s.quieter_ranks.pickBy_eq_some_iff, quietestOf_iff, listed]

theorem pickBy_none_iff (before : VoiceId → VoiceId → Bool) (vs : List VoiceId) (P : VoiceId → Prop)
    (listed : ∀ w, w ∈ vs ↔ P w) : pickBy before vs = none ↔ ∀ w, ¬P w := by
  rw [pickBy_eq_none_iff, List.eq_nil_iff_forall_not_mem]
  simp only [listed]

/-! ### The tiers -/

theorem mem_owned_iff (s : State) (p : Player) (st : VoiceState) (v : VoiceId) :
    v ∈ s.owned p st ↔ OwnedIn s p st v := by
  simp [State.owned, OwnedIn, allVoices]

theorem mem_latchedIn_iff (s : State) (p : Player) (e : LatchEntry) (v : VoiceId) :
    v ∈ s.latchedIn p e ↔ v ∈ e.voices ∧ OwnedIn s p .latched v := by
  simp [State.latchedIn, OwnedIn]

theorem mem_releasing_iff (s : State) (v : VoiceId) :
    v ∈ allVoices.filter (fun v => (s.voice v).state = .releasing) ↔ (s.voice v).state = .releasing := by
  simp [allVoices]

theorem tierOne_eq_some_iff (s : State) (v : VoiceId) :
    tierOne s = some v ↔ QuietestOf s (fun w => (s.voice w).state = .releasing) v :=
  pickBy_quieter_iff s _ _ (mem_releasing_iff s) v

theorem tierOne_eq_none_iff (s : State) : tierOne s = none ↔ ∀ w, (s.voice w).state ≠ .releasing :=
  pickBy_none_iff _ _ _ (mem_releasing_iff s)

/-- An entry that holds no LATCHED voice of the player is passed over. -/
theorem latchedIn_none_iff (s : State) (p : Player) (e : LatchEntry) :
    pickBy s.older (s.latchedIn p e) = none ↔ ∀ w ∈ e.voices, ¬OwnedIn s p .latched w := by
  simp only [pickBy_none_iff _ _ _ (mem_latchedIn_iff s p e), not_and]

theorem tierTwo_eq_some_iff (s : State) (p : Player) (v : VoiceId) :
    tierTwo s p = some v ↔ LowestLatched s p v := by
  simp only [tierTwo, List.findSome?_eq_some_iff, LowestLatched, latchedIn_none_iff,
    pickBy_older_iff s _ _ (mem_latchedIn_iff s p _)]
  constructor
  · rintro ⟨below, e, above, stack, oldest, clear⟩
    exact ⟨below, e, above, stack, clear, oldest⟩
  · rintro ⟨below, e, above, stack, clear, oldest⟩
    exact ⟨below, e, above, stack, oldest, clear⟩

theorem tierTwo_eq_none_iff (s : State) (p : Player) :
    tierTwo s p = none ↔ ∀ e ∈ (s.player p).latch, ∀ w ∈ e.voices, ¬OwnedIn s p .latched w := by
  simp only [tierTwo, List.findSome?_eq_none_iff, latchedIn_none_iff]

theorem robbed_eq_some_iff (s : State) (q : Player) (v : VoiceId) :
    robbed s q = some v ↔ OldestOf s (OwnedIn s q .latched) v ∨
      (∀ w, ¬OwnedIn s q .latched w) ∧ OldestOf s (OwnedIn s q .sounding) v := by
  have latched := pickBy_older_iff s _ _ (mem_owned_iff s q .latched)
  have no_latched := pickBy_none_iff s.older _ _ (mem_owned_iff s q .latched)
  have sounding := pickBy_older_iff s _ _ (mem_owned_iff s q .sounding)
  unfold robbed
  rw [← latched v, ← no_latched, ← sounding v]
  split
  next found => simp [found]
  next not_found => simp [not_found]

theorem robbed_eq_none_iff (s : State) (q : Player) : robbed s q = none ↔ ¬Robbable s q := by
  have no_latched := pickBy_none_iff s.older _ _ (mem_owned_iff s q .latched)
  have no_sounding := pickBy_none_iff s.older _ _ (mem_owned_iff s q .sounding)
  simp only [Robbable, not_exists, not_or, forall_and, ← no_latched, ← no_sounding, robbed]
  split
  next found => simp [found]
  next not_found => simp [not_found]

/-! ### The order of T3 -/

theorem PlayerState.excess_eq (s : State) (q : Player) : (s.player q).excess = excessOf s q := rfl

theorem RobbedFirst.trans {s : State} {a b c : Player} (hab : RobbedFirst s a b) (hbc : RobbedFirst s b c) :
    RobbedFirst s a c := by
  simp only [RobbedFirst, Fin.lt_def] at *
  omega

theorem RobbedFirst.irrefl (s : State) (a : Player) : ¬RobbedFirst s a a := by simp [RobbedFirst]

theorem RobbedFirst.asymm {s : State} {a b : Player} (hab : RobbedFirst s a b) : ¬RobbedFirst s b a :=
  fun hba => RobbedFirst.irrefl s a (hab.trans hba)

theorem insertByExcess_perm (s : State) (q : Player) (rs : List Player) :
    (insertByExcess s q rs).Perm (q :: rs) := by
  induction rs with
  | nil => rfl
  | cons r rs ih =>
    rw [insertByExcess]
    split
    · rfl
    · exact (ih.cons r).trans (.swap q r rs)

/-- A player of lower number than all those listed is inserted at its place. -/
theorem insertByExcess_pairwise (s : State) (q : Player) {rs : List Player}
    (sorted : rs.Pairwise (RobbedFirst s)) (lower : ∀ r ∈ rs, q < r) :
    (insertByExcess s q rs).Pairwise (RobbedFirst s) := by
  induction rs with
  | nil => simp [insertByExcess]
  | cons r rs ih =>
    obtain ⟨r_first, sorted⟩ := List.pairwise_cons.1 sorted
    have q_lower := lower r (.head _)
    rw [insertByExcess]
    split
    next more =>
      have q_first : RobbedFirst s q r := by
        simp only [PlayerState.excess_eq] at more
        rcases Nat.lt_or_eq_of_le more with less | same
        · exact .inl less
        · exact .inr ⟨same, q_lower⟩
      refine .cons (fun x hx => ?_) (.cons r_first sorted)
      rcases List.mem_cons.1 hx with rfl | hx
      · exact q_first
      · exact q_first.trans (r_first x hx)
    next less =>
      have r_before : RobbedFirst s r q := .inl (by simpa [PlayerState.excess_eq] using less)
      refine .cons (fun x hx => ?_) (ih sorted fun x hx => lower x (.tail _ hx))
      rcases List.mem_cons.1 ((insertByExcess_perm s q rs).mem_iff.1 hx) with rfl | hx
      · exact r_before
      · exact r_first x hx

theorem foldr_insertByExcess_perm (s : State) (qs : List Player) :
    (qs.foldr (insertByExcess s) []).Perm qs := by
  induction qs with
  | nil => rfl
  | cons q qs ih => exact (insertByExcess_perm s q _).trans (ih.cons q)

theorem foldr_insertByExcess_pairwise (s : State) {qs : List Player} (rising : qs.Pairwise (· < ·)) :
    (qs.foldr (insertByExcess s) []).Pairwise (RobbedFirst s) := by
  induction qs with
  | nil => exact .nil
  | cons q qs ih =>
    obtain ⟨lower, rising⟩ := List.pairwise_cons.1 rising
    exact insertByExcess_pairwise s q (ih rising) fun r hr =>
      lower r ((foldr_insertByExcess_perm s qs).mem_iff.1 hr)

theorem mem_tierThreeOrder_iff (s : State) (p q : Player) :
    q ∈ tierThreeOrder s p ↔ q ≠ p ∧ 0 < excessOf s q := by
  rw [tierThreeOrder, (foldr_insertByExcess_perm s _).mem_iff, ← PlayerState.excess_eq]
  simp [mem_allPlayers]

theorem allPlayers_rising : allPlayers.Pairwise (· < ·) := by decide

theorem tierThreeOrder_pairwise (s : State) (p : Player) : (tierThreeOrder s p).Pairwise (RobbedFirst s) :=
  foldr_insertByExcess_pairwise s (allPlayers_rising.filter _)

theorem tierThree_eq_none_iff (s : State) (p : Player) :
    tierThree s p = none ↔ ∀ q, q ≠ p → 0 < excessOf s q → ¬Robbable s q := by
  simp only [tierThree, List.findSome?_eq_none_iff, mem_tierThreeOrder_iff, robbed_eq_none_iff, and_imp]

theorem tierThree_eq_some_iff (s : State) (p : Player) (v : VoiceId) :
    tierThree s p = some v ↔ RobbedIn s p v := by
  simp only [tierThree, RobbedIn, ← robbed_eq_some_iff, ← robbed_eq_none_iff]
  constructor
  · intro found
    obtain ⟨first, q, rest, order, candidate, none_first⟩ := List.findSome?_eq_some_iff.1 found
    have sorted := tierThreeOrder_pairwise s p
    rw [order] at sorted
    obtain ⟨-, rest_sorted, -⟩ := List.pairwise_append.1 sorted
    obtain ⟨other, some_excess⟩ := (mem_tierThreeOrder_iff s p q).1 (by simp [order])
    refine ⟨q, other, some_excess, fun r r_other r_excess r_first => ?_, candidate⟩
    have listed := (mem_tierThreeOrder_iff s p r).2 ⟨r_other, r_excess⟩
    rw [order, List.mem_append, List.mem_cons] at listed
    rcases listed with hr | rfl | hr
    · exact none_first r hr
    · exact absurd r_first (RobbedFirst.irrefl s r)
    · exact absurd r_first ((List.pairwise_cons.1 rest_sorted).1 r hr).asymm
  · rintro ⟨q, other, some_excess, none_first, candidate⟩
    obtain ⟨first, rest, order⟩ := List.append_of_mem ((mem_tierThreeOrder_iff s p q).2 ⟨other, some_excess⟩)
    have sorted := tierThreeOrder_pairwise s p
    rw [order] at sorted
    refine List.findSome?_eq_some_iff.2 ⟨first, q, rest, order, candidate, fun r hr => ?_⟩
    obtain ⟨r_other, r_excess⟩ := (mem_tierThreeOrder_iff s p r).1 (by simp [order, hr])
    exact none_first r r_other r_excess ((List.pairwise_append.1 sorted).2.2 r hr q (.head _))

theorem ownVictim_eq_some_iff (s : State) (p : Player) (v : VoiceId) :
    ownVictim s p = some v ↔ QuietestOf s (OwnedIn s p .releasing) v ∨
      (∀ w, ¬OwnedIn s p .releasing w) ∧ LowestLatched s p v := by
  have releasing := pickBy_quieter_iff s _ _ (mem_owned_iff s p .releasing)
  have no_releasing := pickBy_none_iff s.quieter _ _ (mem_owned_iff s p .releasing)
  unfold ownVictim
  rw [← releasing v, ← no_releasing, ← tierTwo_eq_some_iff]
  split
  next found => simp [found]
  next not_found => simp [not_found]

theorem tierVictim_eq_some_iff (s : State) (p : Player) (v : VoiceId) :
    tierVictim s p = some v ↔ tierOne s = some v ∨ tierOne s = none ∧ tierTwo s p = some v ∨
      tierOne s = none ∧ tierTwo s p = none ∧ tierThree s p = some v := by
  unfold tierVictim
  split
  next found => simp [found]
  next not_one =>
    split
    next found => simp [not_one, found]
    next not_two => simp [not_one, not_two]

/-! ### Which voices a search can take -/

theorem LowestLatched.ownedIn {s : State} {p : Player} {v : VoiceId} (h : LowestLatched s p v) :
    OwnedIn s p .latched v := by
  obtain ⟨-, -, -, -, -, ⟨-, owned⟩, -⟩ := h
  exact owned

theorem RobbedIn.ownedIn {s : State} {p : Player} {v : VoiceId} (h : RobbedIn s p v) :
    ∃ q, q ≠ p ∧ (OwnedIn s q .latched v ∨ OwnedIn s q .sounding v) := by
  obtain ⟨q, other, -, -, latched | ⟨-, sounding⟩⟩ := h
  · exact ⟨q, other, .inl latched.1⟩
  · exact ⟨q, other, .inr sounding.1⟩

/-- A tier takes a RELEASING voice, a LATCHED voice or a SOUNDING voice of another player (R94). -/
theorem tierVictim_spares {s : State} {p : Player} {v : VoiceId} (h : tierVictim s p = some v) :
    (s.voice v).state = .releasing ∨ (s.voice v).state = .latched ∨
      (s.voice v).state = .sounding ∧ (s.voice v).owner ≠ some p := by
  rw [tierVictim_eq_some_iff, tierOne_eq_some_iff, tierTwo_eq_some_iff, tierThree_eq_some_iff] at h
  rcases h with releasing | ⟨-, lowest⟩ | ⟨-, -, taken⟩
  · exact .inl releasing.1
  · exact .inr (.inl lowest.ownedIn.1)
  · obtain ⟨q, other, latched | ⟨sounding, owner⟩⟩ := taken.ownedIn
    · exact .inr (.inl latched.1)
    · exact .inr (.inr ⟨sounding, by simp [owner, other]⟩)

/-- At its ceiling a player takes one of its own RELEASING or LATCHED voices (R90). -/
theorem ownVictim_ownedIn {s : State} {p : Player} {v : VoiceId} (h : ownVictim s p = some v) :
    OwnedIn s p .releasing v ∨ OwnedIn s p .latched v := by
  rcases (ownVictim_eq_some_iff s p v).1 h with releasing | ⟨-, lowest⟩
  · exact .inl releasing.1
  · exact .inr lowest.ownedIn

/-- Settles O19: each search is a pick by a strict order on its candidates, and the tiers go one after another. -/
theorem stealSearchesSpareProtectedVoices : Obligations.StealSearchesSpareProtectedVoices := by
  intro s p v
  exact ⟨tierVictim_eq_some_iff s p v, tierOne_eq_some_iff s v, tierTwo_eq_some_iff s p v,
    tierThree_eq_some_iff s p v, ownVictim_eq_some_iff s p v, tierOne_eq_none_iff s, tierTwo_eq_none_iff s p,
    tierThree_eq_none_iff s p, tierVictim_spares⟩

end Sys2Proof.Machine


/-!
The soundness of the voice pool cut into the parts that its operations deal with: owners and the free queue, notes and
claims, and latch stacks; and what each part allows an operation to change.
-/

namespace Sys2Proof.Machine

/-! ### Owners and the free queue (R78, R80, R82) -/

/-- The free queue holds the FREE voices, a voice has an owner just when it is not FREE, and the held counts agree. -/
structure OwnersSound (s : State) : Prop where
  nodup : s.freeQueue.Nodup
  queue : ∀ v, v ∈ s.freeQueue ↔ (s.voice v).state = .free
  owner : ∀ v, (s.voice v).owner = none ↔ (s.voice v).state = .free
  held : ∀ p, (s.player p).held = ownedCount s p

theorem Voice.owner_eq_none_iff (vo : Voice) : vo.owner = none ↔ vo.use = none := by simp [Voice.owner]

theorem ownedCount_eq_sum (s : State) (p : Player) :
    ownedCount s p = ∑ v, if (s.voice v).owner = some p then 1 else 0 := by
  rw [Finset.sum_boole, Nat.cast_id, ownedCount]
  exact (List.toFinset_card_of_nodup ((List.nodup_finRange _).filter _)).symm.trans
    (congrArg Finset.card (by ext v; simp))

/-- Where one voice changes, a player's count moves with that voice's owner. -/
theorem ownedCount_of_other {s t : State} {v : VoiceId} (others : SameOtherVoices v s t) (p : Player) :
    ownedCount t p + (if (s.voice v).owner = some p then 1 else 0) =
      ownedCount s p + (if (t.voice v).owner = some p then 1 else 0) := by
  have rest : ∑ w ∈ Finset.univ.erase v, (if (t.voice w).owner = some p then 1 else 0) =
      ∑ w ∈ Finset.univ.erase v, (if (s.voice w).owner = some p then 1 else 0) :=
    Finset.sum_congr rfl fun w hw => by rw [others w (Finset.ne_of_mem_erase hw)]
  rw [ownedCount_eq_sum, ownedCount_eq_sum, ← Finset.add_sum_erase _ _ (Finset.mem_univ v), rest,
    ← Finset.add_sum_erase Finset.univ (fun w => if (s.voice w).owner = some p then 1 else 0) (Finset.mem_univ v)]
  omega

theorem ownedCount_congr {s t : State} (owner : ∀ v, (t.voice v).owner = (s.voice v).owner) (p : Player) :
    ownedCount t p = ownedCount s p := by
  simp only [ownedCount, owner]

theorem ownedCount_pos {s : State} {v : VoiceId} {p : Player} (h : (s.voice v).owner = some p) :
    0 < ownedCount s p :=
  List.length_pos_of_mem (a := v) (by simp [allVoices, h])

/-- The same owners, FREE voices, free queue and held counts. -/
structure OwnersKept (s t : State) : Prop where
  free : ∀ v, (t.voice v).state = .free ↔ (s.voice v).state = .free
  owner : ∀ v, (t.voice v).owner = (s.voice v).owner
  freeQueue : t.freeQueue = s.freeQueue
  held : ∀ p, (t.player p).held = (s.player p).held

theorem OwnersSound.kept {s t : State} (h : OwnersSound s) (k : OwnersKept s t) : OwnersSound t where
  nodup := k.freeQueue ▸ h.nodup
  queue v := by rw [k.freeQueue, h.queue, k.free]
  owner v := by rw [k.owner, h.owner, k.free]
  held p := by rw [k.held, h.held, ownedCount_congr k.owner]

/-! ### Notes, SOUNDING voices and claims (R84, R96, R98) -/

/-- The current note of p bears the tag and has a binding item of the layer. -/
def HasItem (s : State) (p : Player) (tag : BitVec 8) (l : LayerId) (i : BindItem) : Prop :=
  Bound s p tag { layer := l, item := i }

/-- The SOUNDING voices and the open claims are the voice items and the claim items of the current notes. -/
structure NotesSound (s : State) : Prop where
  claims : ∀ v c, (s.voice v).claim = some c → (s.voice v).state = .fading ∧ (s.voice v).owner = some c.player
  bus : ∀ v u, (s.voice v).state = .sounding → (s.voice v).use = some u → u.bus = u.owner
  voiceItem : ∀ p tag l v, HasItem s p tag l (.voice v) ↔
    (s.voice v).state = .sounding ∧ (s.voice v).use = some { owner := p, bus := p, tag := tag, layer := l }
  claimItem : ∀ p tag l v, HasItem s p tag l (.claim v) ↔
    (s.voice v).claim = some { player := p, tag := tag, layer := l }

theorem NotesSound.claim_eq_none {s : State} (h : NotesSound s) {v : VoiceId} (state : (s.voice v).state ≠ .fading) :
    (s.voice v).claim = none := by
  cases claimed : (s.voice v).claim with
  | none => rfl
  | some c => exact absurd (h.claims v c claimed).1 state

/-- The same voice and claim items, SOUNDING voices and claims. -/
structure NotesKept (s t : State) : Prop where
  sounding : ∀ v, (t.voice v).state = .sounding ↔ (s.voice v).state = .sounding
  use : ∀ v, (s.voice v).state = .sounding → (t.voice v).use = (s.voice v).use
  claim : ∀ v, (t.voice v).claim = (s.voice v).claim
  claimed : ∀ v c, (s.voice v).claim = some c →
    ((s.voice v).state = .fading → (t.voice v).state = .fading) ∧ (t.voice v).owner = (s.voice v).owner
  item : ∀ p tag l i, i ≠ .denied → (HasItem t p tag l i ↔ HasItem s p tag l i)

theorem NotesSound.kept {s t : State} (h : NotesSound s) (k : NotesKept s t) : NotesSound t where
  claims v c claimed := by
    rw [k.claim] at claimed
    obtain ⟨fading, owner⟩ := h.claims v c claimed
    exact ⟨(k.claimed v c claimed).1 fading, (k.claimed v c claimed).2.trans owner⟩
  bus v u sounding use := by
    rw [k.sounding] at sounding
    rw [k.use v sounding] at use
    exact h.bus v u sounding use
  voiceItem p tag l v := by
    rw [k.item p tag l _ (by simp), h.voiceItem, k.sounding]
    exact and_congr_right fun sounding => by rw [k.use v sounding]
  claimItem p tag l v := by rw [k.item p tag l _ (by simp), h.claimItem, k.claim]

/-- Where no note stands, no voice is SOUNDING and no claim is open. -/
theorem NotesSound.of_silent {t : State} (note : ∀ p, (t.player p).note = none)
    (sounding : ∀ v, (t.voice v).state ≠ .sounding) (claim : ∀ v, (t.voice v).claim = none) : NotesSound t where
  claims v c claimed := by simp [claim] at claimed
  bus v u := (absurd · (sounding v))
  voiceItem p tag l v := by simp [HasItem, Bound, note, sounding]
  claimItem p tag l v := by simp [HasItem, Bound, note, claim]

/-! ### Binding items under what operations do to notes -/

theorem bound_congr {s t : State} {p : Player} (h : (t.player p).note = (s.player p).note) (tag : BitVec 8) (b : Binding) :
    Bound t p tag b ↔ Bound s p tag b := by
  unfold Bound
  rw [h]

/-- A note that keeps tag and binding list keeps its items. -/
theorem bound_congr_of_map {s t : State} {p : Player}
    (h : (t.player p).note.map (fun n => (n.tag, n.binding)) = (s.player p).note.map fun n => (n.tag, n.binding))
    (tag : BitVec 8) (b : Binding) : Bound t p tag b ↔ Bound s p tag b := by
  have view (r : State) : Bound r p tag b ↔
      ∃ x, (r.player p).note.map (fun n => (n.tag, n.binding)) = some x ∧ x.1 = tag ∧ b ∈ x.2 := by
    simp [Bound, Option.map_eq_some_iff]
  rw [view, view, h]

/-- Items of a note whose binding items are changed one by one. -/
theorem bound_of_map {s t : State} {p : Player} {f : Binding → Binding}
    (h : (t.player p).note = (s.player p).note.map fun n => { n with binding := n.binding.map f }) (tag : BitVec 8)
    (b : Binding) : Bound t p tag b ↔ ∃ a, Bound s p tag a ∧ f a = b := by
  unfold Bound
  rw [h]
  constructor
  · rintro ⟨n, hn, rfl, hb⟩
    obtain ⟨m, hm, rfl⟩ := Option.map_eq_some_iff.1 hn
    obtain ⟨a, ha, rfl⟩ := List.mem_map.1 hb
    exact ⟨a, ⟨m, hm, rfl, ha⟩, rfl⟩
  · rintro ⟨a, ⟨m, hm, rfl, ha⟩, rfl⟩
    exact ⟨{ m with binding := m.binding.map f }, by rw [hm]; rfl, rfl, List.mem_map_of_mem ha⟩

/-- Items of a note whose binding list takes one more item. -/
theorem bound_of_append {s t : State} {p : Player} {x : Binding}
    (h : (t.player p).note = (s.player p).note.map fun n => { n with binding := n.binding ++ [x] }) (tag : BitVec 8)
    (b : Binding) :
    Bound t p tag b ↔ Bound s p tag b ∨ (s.player p).note.map Note.tag = some tag ∧ b = x := by
  unfold Bound
  rw [h]
  cases (s.player p).note with
  | none => simp
  | some n => simp [and_or_left]

theorem not_bound_of_none {s : State} {p : Player} (h : (s.player p).note = none) (tag : BitVec 8) (b : Binding) :
    ¬Bound s p tag b := by simp [Bound, h]

theorem mem_boundVoices_iff (n : Note) (v : VoiceId) :
    v ∈ boundVoices n ↔ ∃ l, { layer := l, item := .voice v } ∈ n.binding := by
  simp only [boundVoices, List.mem_filterMap]
  constructor
  · rintro ⟨⟨l, i⟩, mem, h⟩
    cases i with
    | voice w =>
      obtain rfl : w = v := Option.some.inj h
      exact ⟨l, mem⟩
    | claim w | denied => cases h
  · rintro ⟨l, mem⟩
    exact ⟨_, mem, rfl⟩

theorem mem_claimedVoices_iff (n : Note) (v : VoiceId) :
    v ∈ claimedVoices n ↔ ∃ l, { layer := l, item := .claim v } ∈ n.binding := by
  simp only [claimedVoices, List.mem_filterMap]
  constructor
  · rintro ⟨⟨l, i⟩, mem, h⟩
    cases i with
    | claim w =>
      obtain rfl : w = v := Option.some.inj h
      exact ⟨l, mem⟩
    | voice w | denied => cases h
  · rintro ⟨l, mem⟩
    exact ⟨_, mem, rfl⟩

theorem mem_boundList_iff (s : State) (p : Player) (v : VoiceId) :
    v ∈ (s.player p).boundList ↔ ∃ tag l, HasItem s p tag l (.voice v) := by
  unfold PlayerState.boundList HasItem Bound
  cases (s.player p).note with
  | none => simp
  | some n => simp [mem_boundVoices_iff]

theorem mem_claimedList_iff (s : State) (p : Player) (v : VoiceId) :
    v ∈ (s.player p).claimedList ↔ ∃ tag l, HasItem s p tag l (.claim v) := by
  unfold PlayerState.claimedList HasItem Bound
  cases (s.player p).note with
  | none => simp
  | some n => simp [mem_claimedVoices_iff]

/-- The voices that a player's note is bound to are its SOUNDING voices. -/
theorem NotesSound.mem_boundList {s : State} (h : NotesSound s) (p : Player) (v : VoiceId) :
    v ∈ (s.player p).boundList ↔ (s.voice v).state = .sounding ∧ (s.voice v).owner = some p := by
  simp only [mem_boundList_iff, h.voiceItem]
  constructor
  · rintro ⟨tag, l, sounding, use⟩
    exact ⟨sounding, by rw [Voice.owner, use]; rfl⟩
  · rintro ⟨sounding, owner⟩
    obtain ⟨u, use, rfl⟩ := Option.map_eq_some_iff.1 owner
    refine ⟨u.tag, u.layer, sounding, ?_⟩
    rw [use]
    have bus := h.bus v u sounding use
    cases u
    simp_all

theorem NotesSound.mem_claimedList {s : State} (h : NotesSound s) (p : Player) (v : VoiceId) :
    v ∈ (s.player p).claimedList ↔ ∃ c, (s.voice v).claim = some c ∧ c.player = p := by
  simp only [mem_claimedList_iff, h.claimItem]
  constructor
  · rintro ⟨tag, l, claimed⟩
    exact ⟨_, claimed, rfl⟩
  · rintro ⟨c, claimed, rfl⟩
    exact ⟨c.tag, c.layer, claimed⟩

/-- A note with its items in layer order is bound to each of its voices once. -/
theorem NotesSound.boundList_nodup {s : State} (h : NotesSound s) (layers : LayersOrdered s) (p : Player) :
    (s.player p).boundList.Nodup := by
  have ordered := layers p
  unfold PlayerState.boundList
  unfold PlayerState.layerList at ordered
  cases current : (s.player p).note with
  | none => exact List.nodup_nil
  | some n =>
    rw [current] at ordered
    have ordered : n.binding.Pairwise fun a b => a.layer < b.layer := List.pairwise_map.1 ordered
    refine List.pairwise_filterMap.2 (ordered.imp_of_mem fun {a b} ha hb below v hv w hw => ?_)
    rintro rfl
    obtain ⟨l, i⟩ := a
    obtain ⟨m, j⟩ := b
    cases i with
    | claim | denied => cases hv
    | voice x =>
      cases j with
      | claim | denied => cases hw
      | voice y =>
        obtain rfl : x = v := Option.some.inj hv
        obtain rfl : y = x := Option.some.inj hw
        have first := ((h.voiceItem p n.tag l y).1 ⟨n, current, rfl, ha⟩).2
        have second := ((h.voiceItem p n.tag m y).1 ⟨n, current, rfl, hb⟩).2
        rw [first] at second
        cases second
        exact absurd below (lt_irrefl l)

/-- Where a player's note ends, its SOUNDING voices change their state and its claims are cleared (R89, R110). -/
theorem NotesSound.ended {s t : State} (h : NotesSound s) {p : Player} (note : (t.player p).note = none)
    (others : ∀ q, q ≠ p → (t.player q).note = (s.player q).note) (use : ∀ v, (t.voice v).use = (s.voice v).use)
    (claim : ∀ v, (t.voice v).claim = if v ∈ (s.player p).claimedList then none else (s.voice v).claim)
    (sounding : ∀ v, (t.voice v).state = .sounding ↔ (s.voice v).state = .sounding ∧ v ∉ (s.player p).boundList)
    (fading : ∀ v, (s.voice v).state = .fading → (t.voice v).state = .fading) : NotesSound t := by
  have item (q : Player) (tag : BitVec 8) (l : LayerId) (i : BindItem) :
      HasItem t q tag l i ↔ q ≠ p ∧ HasItem s q tag l i := by
    rcases eq_or_ne q p with rfl | other
    · simp [HasItem, not_bound_of_none note]
    · simp [other, HasItem, bound_congr (others q other)]
  have kept {v : VoiceId} {c : Claim} :
      (t.voice v).claim = some c ↔ c.player ≠ p ∧ (s.voice v).claim = some c := by
    have listed := h.mem_claimedList p v
    rw [claim]
    constructor
    · intro claimed
      split at claimed
      · simp at claimed
      · next other => exact ⟨fun hc => other (listed.2 ⟨c, claimed, hc⟩), claimed⟩
    · rintro ⟨other, claimed⟩
      rw [if_neg]
      · exact claimed
      · intro mem
        obtain ⟨d, hd, rfl⟩ := listed.1 mem
        exact other (by rw [claimed] at hd; cases hd; rfl)
  refine ⟨fun v c claimed => ?_, fun v u stays => ?_, fun q tag l v => ?_, fun q tag l v => ?_⟩
  · obtain ⟨was_fading, owner⟩ := h.claims v c (kept.1 claimed).2
    exact ⟨fading v was_fading, by rw [Voice.owner, use]; exact owner⟩
  · rw [use]
    exact h.bus v u ((sounding v).1 stays).1
  · rw [item, h.voiceItem, sounding, h.mem_boundList, use]
    constructor
    · rintro ⟨other, was, use⟩
      exact ⟨⟨was, by simp [Voice.owner, use, other]⟩, use⟩
    · rintro ⟨⟨was, not_p⟩, use⟩
      exact ⟨fun same => not_p ⟨was, by simp [Voice.owner, use, same]⟩, was, use⟩
  · rw [item, h.claimItem, kept]

/-! ### Latch stacks (R107) -/

/-- A latch stack lists the LATCHED voices of its player, each once. -/
structure StacksSound (s : State) : Prop where
  latched : ∀ p v, v ∈ (s.player p).stackList ↔ (s.voice v).state = .latched ∧ (s.voice v).owner = some p
  once : ∀ p, (s.player p).stackList.Nodup

/-- The same LATCHED voices, of the same owners, in the same stacks. -/
structure StacksKept (s t : State) : Prop where
  latched : ∀ v, (t.voice v).state = .latched ↔ (s.voice v).state = .latched
  owner : ∀ v, (s.voice v).state = .latched → (t.voice v).owner = (s.voice v).owner
  stack : ∀ p, (t.player p).stackList = (s.player p).stackList

theorem StacksSound.kept {s t : State} (h : StacksSound s) (k : StacksKept s t) : StacksSound t where
  latched p v := by
    rw [k.stack, h.latched, k.latched]
    exact and_congr_right fun latched => by rw [k.owner v latched]
  once p := by rw [k.stack]; exact h.once p

theorem StacksSound.of_empty {t : State} (stack : ∀ p, (t.player p).stackList = [])
    (latched : ∀ v, (t.voice v).state ≠ .latched) : StacksSound t where
  latched p v := by simp [stack, latched]
  once p := by simp [stack]

theorem PlayerState.stackList_congr {a b : PlayerState} (h : b.latch = a.latch) : b.stackList = a.stackList := by
  rw [PlayerState.stackList, PlayerState.stackList, h]

/-! ### The pool as a whole -/

/-- The parts of a sound pool. -/
structure PoolWell (s : State) : Prop where
  owners : OwnersSound s
  notes : NotesSound s
  latches : StacksSound s
  layers : LayersOrdered s

theorem PoolSound.well {s : State} (h : PoolSound s) : PoolWell s where
  owners := ⟨h.nodup, h.queue, fun v => by rw [Voice.owner_eq_none_iff, h.owner], h.held⟩
  notes := by
    refine ⟨h.claims, fun v u sounding use => ?_, fun p tag l v => ⟨?_, ?_⟩, fun p tag l v => ⟨?_, ?_⟩⟩
    · obtain ⟨n, current, tag, mem⟩ := h.sounding v u sounding use
      have same := (h.voiceItems _ _ _ _ current mem).2.symm.trans use
      exact (congrArg VoiceUse.bus (Option.some.inj same)).symm
    · rintro ⟨n, current, rfl, mem⟩
      exact h.voiceItems p n l v current mem
    · rintro ⟨sounding, use⟩
      exact h.sounding v _ sounding use
    · rintro ⟨n, current, rfl, mem⟩
      exact h.claimItems p n l v current mem
    · exact h.claimed v _
  latches := ⟨h.latched, h.entriesOnce⟩
  layers p := by
    unfold PlayerState.layerList
    cases current : (s.player p).note with
    | none => exact .nil
    | some n => exact List.pairwise_map.2 (h.layers p n current)

theorem PoolWell.sound {s : State} (h : PoolWell s) : PoolSound s where
  nodup := h.owners.nodup
  queue := h.owners.queue
  owner v := by rw [← Voice.owner_eq_none_iff, h.owners.owner]
  held := h.owners.held
  claims := h.notes.claims
  layers p n current := by
    have ordered := h.layers p
    rw [PlayerState.layerList, current] at ordered
    exact List.pairwise_map.1 ordered
  bindings := h.notes.boundList_nodup h.layers
  voiceItems p n l v current mem := (h.notes.voiceItem p n.tag l v).1 ⟨n, current, rfl, mem⟩
  claimItems p n l v current mem := (h.notes.claimItem p n.tag l v).1 ⟨n, current, rfl, mem⟩
  sounding v u sounding use := by
    refine (h.notes.voiceItem _ _ _ _).2 ⟨sounding, ?_⟩
    have bus := h.notes.bus v u sounding use
    cases u
    simp_all
  claimed v c := (h.notes.claimItem c.player c.tag c.layer v).2
  latched := h.latches.latched
  entriesOnce := h.latches.once

/-- Nothing that the pool's soundness speaks of changes. -/
structure PoolKept (s t : State) : Prop where
  state : ∀ v, (t.voice v).state = (s.voice v).state
  use : ∀ v, (t.voice v).use = (s.voice v).use
  claim : ∀ v, (t.voice v).claim = (s.voice v).claim
  freeQueue : t.freeQueue = s.freeQueue
  items : ∀ p, (t.player p).note.map (fun n => (n.tag, n.binding)) = (s.player p).note.map fun n => (n.tag, n.binding)
  stack : ∀ p, (t.player p).stackList = (s.player p).stackList
  held : ∀ p, (t.player p).held = (s.player p).held

theorem PoolKept.owner {s t : State} (h : PoolKept s t) (v : VoiceId) : (t.voice v).owner = (s.voice v).owner := by
  rw [Voice.owner, Voice.owner, h.use]

theorem PoolKept.ownersKept {s t : State} (h : PoolKept s t) : OwnersKept s t :=
  ⟨fun v => by rw [h.state], h.owner, h.freeQueue, h.held⟩

theorem PoolKept.notesKept {s t : State} (h : PoolKept s t) : NotesKept s t where
  sounding v := by rw [h.state]
  use v _ := h.use v
  claim := h.claim
  claimed v _ _ := ⟨fun fading => by rw [h.state, fading], h.owner v⟩
  item p tag l _ _ := bound_congr_of_map (h.items p) tag _

theorem PoolKept.stacksKept {s t : State} (h : PoolKept s t) : StacksKept s t :=
  ⟨fun v => by rw [h.state], fun v _ => h.owner v, h.stack⟩

theorem PoolKept.layersFrom {s t : State} (h : PoolKept s t) : LayersFrom s t where
  player p := by
    have items := h.items p
    refine .inl ?_
    unfold PlayerState.layerList
    cases current : (s.player p).note with
    | none => simp_all
    | some n =>
      rw [current] at items
      obtain ⟨m, hm, same⟩ := Option.map_eq_some_iff.1 items
      rw [hm]
      simp_all

theorem PoolWell.kept {s t : State} (h : PoolWell s) (k : PoolKept s t) : PoolWell t :=
  ⟨h.owners.kept k.ownersKept, h.notes.kept k.notesKept, h.latches.kept k.stacksKept, h.layers.from k.layersFrom⟩

theorem PlayingKept.poolKept {s t : State} (h : PlayingKept s t) : PoolKept s t where
  state v := by rw [h.voice]
  use v := by rw [h.voice]
  claim v := by rw [h.voice]
  freeQueue := h.freeQueue
  items p := by rw [h.note]
  stack p := PlayerState.stackList_congr (h.latch p)
  held := h.held

theorem PoolWell.played {s t : State} (h : PoolWell s) (k : PlayingKept s t) : PoolWell t := h.kept k.poolKept

/-- Voices that keep state, use and claim, beside players as they were. -/
theorem PoolKept.of_voices {s t : State} (freeQueue : t.freeQueue = s.freeQueue)
    (players : ∀ p, t.player p = s.player p)
    (voice : ∀ v, (t.voice v).state = (s.voice v).state ∧ (t.voice v).use = (s.voice v).use ∧
      (t.voice v).claim = (s.voice v).claim) : PoolKept s t where
  state v := (voice v).1
  use v := (voice v).2.1
  claim v := (voice v).2.2
  freeQueue := freeQueue
  items p := by rw [players]
  stack p := by rw [players]
  held p := by rw [players]

end Sys2Proof.Machine


/-! Voices that notes and latch stacks let go or freeze keep the voice pool sound. -/

namespace Sys2Proof.Machine

/-! ### What becomes of a voice -/

section
variable (ps : PlayerState) (v : VoiceId) (vo : Voice)

theorem endedVoice_state : (endedVoice ps v vo).state =
    if v ∈ ps.boundList ∧ vo.state = .sounding then .releasing else vo.state := by
  unfold endedVoice
  dsimp only
  split <;> split <;> rfl

theorem endedVoice_use : (endedVoice ps v vo).use = vo.use := by
  unfold endedVoice
  dsimp only
  split <;> split <;> rfl

theorem endedVoice_claim : (endedVoice ps v vo).claim = if v ∈ ps.claimedList then none else vo.claim := by
  unfold endedVoice
  dsimp only
  split <;> split <;> rfl

theorem unlatchedVoice_state : (unlatchedVoice ps v vo).state =
    if v ∈ ps.stackList ∧ vo.state = .latched then .releasing else vo.state := by
  unfold unlatchedVoice
  split <;> rfl

theorem unlatchedVoice_use : (unlatchedVoice ps v vo).use = vo.use := by
  unfold unlatchedVoice
  split <;> rfl

theorem unlatchedVoice_claim : (unlatchedVoice ps v vo).claim = vo.claim := by
  unfold unlatchedVoice
  split <;> rfl

end

section
variable (tuning : Int) (glide : Nat) (bend : Int) (vo : Voice)

theorem Voice.frozen_state : (vo.frozen tuning glide bend).state = .latched := by
  rw [Voice.frozen, retune_eq]

theorem Voice.frozen_use : (vo.frozen tuning glide bend).use = vo.use := by
  rw [Voice.frozen, retune_eq]

theorem Voice.frozen_claim : (vo.frozen tuning glide bend).claim = vo.claim := by
  rw [Voice.frozen, retune_eq]

end

theorem letGo_state (st : VoiceState) (vo : Voice) :
    (letGo st vo).state = if vo.state = st then .releasing else vo.state := by
  unfold letGo
  split <;> rfl

theorem letGo_use (st : VoiceState) (vo : Voice) : (letGo st vo).use = vo.use := by
  unfold letGo
  split <;> rfl

theorem letGo_claim (st : VoiceState) (vo : Voice) : (letGo st vo).claim = vo.claim := by
  unfold letGo
  split <;> rfl

theorem Voice.owner_congr {a b : Voice} (h : b.use = a.use) : b.owner = a.owner := by rw [Voice.owner, Voice.owner, h]

/-! ### The off decision and the emptying of a stack (R89, R112, R114) -/

theorem PoolWell.offDecision {s : State} (h : PoolWell s) (p : Player) (r : OffReason) :
    PoolWell (offDecision p r s) := by
  have state (v : VoiceId) : ((Machine.offDecision p r s).voice v).state =
      if v ∈ (s.player p).boundList ∧ (s.voice v).state = .sounding then .releasing else (s.voice v).state := by
    rw [offDecision_voice, endedVoice_state]
  have use (v : VoiceId) : ((Machine.offDecision p r s).voice v).use = (s.voice v).use := by
    rw [offDecision_voice, endedVoice_use]
  have record (q : Player) : ((Machine.offDecision p r s).player q).held = (s.player q).held ∧
      ((Machine.offDecision p r s).player q).latch = (s.player q).latch := by
    rw [offDecision_player]
    split
    next same => subst same; simp
    next => exact ⟨rfl, rfl⟩
  have owner (v : VoiceId) := Voice.owner_congr (use v)
  refine ⟨h.owners.kept ⟨fun v => ?_, owner, by simp, fun q => (record q).1⟩,
    h.notes.ended (p := p) ?_ (fun q other => ?_) use (fun v => ?_) (fun v => ?_) (fun v fading => ?_),
    h.latches.kept ⟨fun v => ?_, fun v _ => owner v, fun q => PlayerState.stackList_congr (record q).2⟩,
    h.layers.from (.offDecision p r s)⟩
  · rw [state]
    split
    next sounding => simp [sounding.2]
    next => rfl
  · simp [offDecision_player]
  · rw [offDecision_player, if_neg other]
  · rw [offDecision_voice, endedVoice_claim]
  · rw [state]
    split
    next sounding => simp [sounding.1]
    next stays => exact ⟨fun sounding => ⟨sounding, fun mem => stays ⟨mem, sounding⟩⟩, And.left⟩
  · rw [state, if_neg (by simp [fading]), fading]
  · rw [state]
    split
    next sounding => simp [sounding.2]
    next => rfl

theorem PoolWell.clearStack {s : State} (h : PoolWell s) (p : Player) (r : Nat) : PoolWell (clearStack p r s) := by
  have state (v : VoiceId) : ((Machine.clearStack p r s).voice v).state =
      if v ∈ (s.player p).stackList ∧ (s.voice v).state = .latched then .releasing else (s.voice v).state := by
    rw [clearStack_voice, unlatchedVoice_state]
  have use (v : VoiceId) : ((Machine.clearStack p r s).voice v).use = (s.voice v).use := by
    rw [clearStack_voice, unlatchedVoice_use]
  have owner (v : VoiceId) := Voice.owner_congr (use v)
  have note (q : Player) : ((Machine.clearStack p r s).player q).note = (s.player q).note := by
    rw [clearStack_player]
    split
    next same => subst same; simp
    next => rfl
  have stack (q : Player) : ((Machine.clearStack p r s).player q).stackList =
      if q = p then [] else (s.player q).stackList := by
    rw [clearStack_player]
    split
    next => simp [PlayerState.stackList]
    next => rfl
  refine ⟨h.owners.kept ⟨fun v => ?_, owner, by simp, fun q => ?_⟩,
    h.notes.kept ⟨fun v => ?_, fun v _ => use v, fun v => ?_, fun v c _ => ⟨fun fading => ?_, owner v⟩,
      fun q tag l i _ => bound_congr (note q) tag _⟩, ⟨fun q v => ?_, fun q => ?_⟩, h.layers.from (.clearStack p r s)⟩
  · rw [state]
    split
    next latched => simp [latched.2]
    next => rfl
  · rw [clearStack_player]
    split
    next same => subst same; simp
    next => rfl
  · rw [state]
    split
    next latched => simp [latched.2]
    next => rfl
  · rw [clearStack_voice, unlatchedVoice_claim]
  · rw [state, if_neg (by simp [fading]), fading]
  · rw [stack, state, owner]
    have here := h.latches.latched p v
    rcases eq_or_ne q p with rfl | other
    · rw [if_pos rfl]
      split
      next latched => simp
      next stays =>
        simp only [List.not_mem_nil, false_iff]
        exact fun latched => stays ⟨here.2 latched, latched.1⟩
    · have there := h.latches.latched q v
      rw [if_neg other, there]
      split
      next latched => simp [(here.1 latched.1).2, Ne.symm other]
      next => rfl
  · rw [stack]
    split
    next => exact List.nodup_nil
    next => exact h.latches.once q

/-! ### A push (R109, R110) -/

theorem PoolWell.makeRoom {s : State} (h : PoolWell s) (p : Player) : PoolWell (makeRoom p s) := by
  rcases makeRoom_cases p s with ⟨-, same⟩ | ⟨e, es, full, -, dropped⟩
  · rw [same]; exact h
  rw [dropped]
  refine PoolWell.played ?_ (.report ..)
  have listed : (s.player p).stackList = e.voices ++ es.flatMap LatchEntry.voices := by
    rw [PlayerState.stackList, full, List.flatMap_cons]
  have state (v : VoiceId) : ((releaseEntry e s).voice v).state =
      if v ∈ e.voices ∧ (s.voice v).state = .latched then .releasing else (s.voice v).state := by
    rw [releaseEntry_voice]
    by_cases mem : v ∈ e.voices <;> simp [mem, letGo_state]
  have use (v : VoiceId) : ((releaseEntry e s).voice v).use = (s.voice v).use := by
    rw [releaseEntry_voice]
    split
    next => exact letGo_use _ _
    next => rfl
  have claim (v : VoiceId) : ((releaseEntry e s).voice v).claim = (s.voice v).claim := by
    rw [releaseEntry_voice]
    split
    next => exact letGo_claim _ _
    next => rfl
  have owner (v : VoiceId) := Voice.owner_congr (use v)
  have record (q : Player) : (((releaseEntry e s).modPlayer p fun ps => { ps with latch := es }).player q).note =
      (s.player q).note ∧ (((releaseEntry e s).modPlayer p fun ps => { ps with latch := es }).player q).held =
      (s.player q).held := by
    rw [State.player_modPlayer]
    split
    next same => subst same; rw [releaseEntry_player]; exact ⟨rfl, rfl⟩
    next => rw [releaseEntry_player]; exact ⟨rfl, rfl⟩
  have stack (q : Player) : (((releaseEntry e s).modPlayer p fun ps => { ps with latch := es }).player q).stackList =
      if q = p then es.flatMap LatchEntry.voices else (s.player q).stackList := by
    rw [State.player_modPlayer]
    split
    next => rfl
    next => rw [releaseEntry_player]
  have once := h.latches.once p
  rw [listed, List.nodup_append] at once
  obtain ⟨-, rest_once, apart⟩ := once
  have freeQueue : (releaseEntry e s).freeQueue = s.freeQueue := by
    rw [show releaseEntry e s = _ from foldl_modVoice_eq (letGo .latched) e.voices s]
  refine ⟨h.owners.kept ⟨fun v => ?_, owner, freeQueue, fun q => (record q).2⟩,
    h.notes.kept ⟨fun v => ?_, fun v _ => use v, claim, fun v c _ => ⟨fun fading => ?_, owner v⟩,
      fun q tag l i _ => bound_congr (record q).1 tag _⟩,
    ⟨fun q v => ?_, fun q => ?_⟩, h.layers.from (.of_players fun q => (record q).1)⟩
  · rw [State.modPlayer_voice, state]
    split
    next latched => simp [latched.2]
    next => rfl
  · rw [State.modPlayer_voice, state]
    split
    next latched => simp [latched.2]
    next => rfl
  · rw [State.modPlayer_voice, state, if_neg (by simp [fading]), fading]
  · rw [stack, State.modPlayer_voice, state, owner]
    have here := h.latches.latched p v
    rw [listed, List.mem_append] at here
    rcases eq_or_ne q p with rfl | other
    · rw [if_pos rfl]
      split
      next gone =>
        simp only [reduceCtorEq, false_and, iff_false]
        exact fun mem => apart v gone.1 v mem rfl
      next stays =>
        refine ⟨fun mem => here.1 (.inr mem), fun latched => (here.2 latched).resolve_left fun mem => ?_⟩
        exact stays ⟨mem, latched.1⟩
    · have there := h.latches.latched q v
      rw [if_neg other, there]
      split
      next gone => simp [(here.1 (.inl gone.1)).2, Ne.symm other]
      next => rfl
  · rw [stack]
    split
    next => exact rest_once
    next => exact h.latches.once q

section
variable {p : Player} {note : Note} {s : State}

/-- The push freezes the voices of the note and clears its claims (R110). -/
theorem latchNote_voice (distinct : (s.player p).boundList.Nodup) (v : VoiceId) :
    (latchNote p note s).voice v =
      let a := if v ∈ s.noteVoices p then
          (s.voice v).frozen s.tuning (latchEntryOf s p note (s.noteVoices p)).glide (s.player p).bend
        else s.voice v
      if v ∈ claimedVoices note then { a with claim := none } else a := by
  unfold latchNote
  simp only [clearClaim_eq, report_voice]
  rw [foldl_modVoice_voice (fun vo : Voice => { vo with claim := none }) (fun _ => rfl), State.modPlayer_voice,
    foldl_modVoice_voice_of_nodup _ (State.noteVoices_nodup distinct)]
  rfl

theorem latchNote_freeQueue : (latchNote p note s).freeQueue = s.freeQueue := by
  unfold latchNote
  simp only [clearClaim_eq, report_freeQueue]
  rw [foldl_modVoice_eq (fun vo : Voice => { vo with claim := none })]
  dsimp only [State.modPlayer_freeQueue]
  rw [foldl_modVoice_eq]

theorem PoolWell.latchNote (h : PoolWell s) (current : (s.player p).note = some note) : PoolWell (latchNote p note s) := by
  have distinct := h.notes.boundList_nodup h.layers p
  have claimed : claimedVoices note = (s.player p).claimedList := by simp [PlayerState.claimedList, current]
  have sounds (v : VoiceId) : v ∈ s.noteVoices p ↔ (s.voice v).state = .sounding ∧ (s.voice v).owner = some p := by
    rw [State.mem_noteVoices, h.notes.mem_boundList]
    exact ⟨And.left, fun k => ⟨k, k.1⟩⟩
  have state (v : VoiceId) : ((Machine.latchNote p note s).voice v).state =
      if v ∈ s.noteVoices p then .latched else (s.voice v).state := by
    rw [latchNote_voice distinct]
    dsimp only
    split <;> split <;> simp [Voice.frozen_state]
  have use (v : VoiceId) : ((Machine.latchNote p note s).voice v).use = (s.voice v).use := by
    rw [latchNote_voice distinct]
    dsimp only
    split <;> split <;> simp [Voice.frozen_use]
  have claim (v : VoiceId) : ((Machine.latchNote p note s).voice v).claim =
      if v ∈ (s.player p).claimedList then none else (s.voice v).claim := by
    rw [latchNote_voice distinct, claimed]
    dsimp only
    split <;> split <;> simp [Voice.frozen_claim]
  have owner (v : VoiceId) := Voice.owner_congr (use v)
  have stack (q : Player) : ((Machine.latchNote p note s).player q).stackList =
      if q = p then (s.player p).stackList ++ s.noteVoices p else (s.player q).stackList := by
    rw [latchNote_player]
    split
    next => rw [PlayerState.stackList, PlayerState.queued_latch, List.flatMap_append]; simp [PlayerState.stackList,
      latchEntryOf]
    next => rfl
  refine ⟨h.owners.kept ⟨fun v => ?_, owner, latchNote_freeQueue, fun q => ?_⟩,
    h.notes.ended (p := p) ?_ (fun q other => ?_) use claim (fun v => ?_) (fun v fading => ?_),
    ⟨fun q v => ?_, fun q => ?_⟩, h.layers.from (.latchNote p note s)⟩
  · rw [state]
    split
    next mem => simp [((sounds v).1 mem).1]
    next => rfl
  · rw [latchNote_player]
    split
    next same => subst same; simp
    next => rfl
  · simp [latchNote_player]
  · rw [latchNote_player, if_neg other]
  · rw [state, h.notes.mem_boundList, ← sounds]
    split
    next mem => simp [mem]
    next stays => simp [stays]
  · rw [state, if_neg, fading]
    exact fun mem => by simp [((sounds v).1 mem).1] at fading
  · have here := h.latches.latched q v
    rw [stack, state, owner]
    rcases eq_or_ne q p with rfl | other
    · rw [if_pos rfl, List.mem_append, here]
      split
      next mem => simp [mem, ((sounds v).1 mem).2]
      next stays => simp [stays]
    · rw [if_neg other, here]
      split
      next mem =>
        obtain ⟨sounding, owned⟩ := (sounds v).1 mem
        simp [sounding, owned, Ne.symm other]
      next => rfl
  · rw [stack]
    split
    next =>
      refine List.nodup_append.2 ⟨h.latches.once p, State.noteVoices_nodup distinct, fun v mem w mem' => ?_⟩
      rintro rfl
      have latched := ((h.latches.latched p v).1 mem).1
      simp [((sounds v).1 mem').1] at latched
    next => exact h.latches.once q

end

end Sys2Proof.Machine


/-! Layer requests and onsets keep the voice pool sound. -/

namespace Sys2Proof.Machine

/-! ### Where one voice changes -/

theorem NotesSound.changed {s t : State} {v : VoiceId} (h : NotesSound s) (others : SameOtherVoices v s t)
    (item : ∀ p tag l i, i ≠ .denied → i ≠ .voice v → i ≠ .claim v → (HasItem t p tag l i ↔ HasItem s p tag l i))
    (claims : ∀ c, (t.voice v).claim = some c → (t.voice v).state = .fading ∧ (t.voice v).owner = some c.player)
    (bus : ∀ u, (t.voice v).state = .sounding → (t.voice v).use = some u → u.bus = u.owner)
    (voiceItem : ∀ p tag l, HasItem t p tag l (.voice v) ↔
      (t.voice v).state = .sounding ∧ (t.voice v).use = some { owner := p, bus := p, tag := tag, layer := l })
    (claimItem : ∀ p tag l, HasItem t p tag l (.claim v) ↔
      (t.voice v).claim = some { player := p, tag := tag, layer := l }) : NotesSound t := by
  refine ⟨fun w c => ?_, fun w u => ?_, fun p tag l w => ?_, fun p tag l w => ?_⟩ <;>
    rcases eq_or_ne w v with rfl | other
  · exact claims c
  · rw [others w other]; exact h.claims w c
  · exact bus u
  · rw [others w other]; exact h.bus w u
  · exact voiceItem p tag l
  · rw [others w other, item p tag l _ (by simp) (by simpa) (by simp)]; exact h.voiceItem p tag l w
  · exact claimItem p tag l
  · rw [others w other, item p tag l _ (by simp) (by simp) (by simpa)]; exact h.claimItem p tag l w

/-- A voice that is LATCHED neither before nor after leaves the stacks as they were. -/
theorem StacksKept.changed {s t : State} {v : VoiceId} (others : SameOtherVoices v s t)
    (before : (s.voice v).state ≠ .latched) (after : (t.voice v).state ≠ .latched)
    (stack : ∀ p, (t.player p).stackList = (s.player p).stackList) : StacksKept s t := by
  refine ⟨fun w => ?_, fun w latched => ?_, stack⟩ <;> rcases eq_or_ne w v with rfl | other
  · simp [before, after]
  · rw [others w other]
  · exact absurd latched before
  · rw [others w other]

/-! ### What a steal does to stacks, notes and held counts (R96, R97, R113) -/

theorem shrinkStack_flatMap (v : VoiceId) (es : List LatchEntry) :
    (shrinkStack v es).flatMap LatchEntry.voices = (es.flatMap LatchEntry.voices).erase v := by
  induction es with
  | nil => rfl
  | cons e es ih =>
    rw [shrinkStack, List.flatMap_cons]
    split
    next mem =>
      rw [List.erase_append_left _ mem]
      split
      next emptied => rw [emptied, List.nil_append]
      next => rw [List.flatMap_cons]
    next absent => rw [List.flatMap_cons, ih, List.erase_append_right _ absent]

theorem PlayerState.told_held (ps : PlayerState) (s : State) (v : VoiceId) (u : VoiceUse) (d : Option LatchEntry) :
    (ps.told s v u d).held = ps.held := by
  unfold PlayerState.told
  cases d <;> simp

section
variable {v : VoiceId} {p : Player} {tag : BitVec 8} {l : LayerId} {u : VoiceUse} {s : State}
  (use : (s.voice v).use = some u)
include use

theorem stealVoice_held (r : Player) :
    ((stealVoice v p tag l s).player r).held =
      (s.player r).held - (if r = u.owner then 1 else 0) + (if r = p then 1 else 0) := by
  have seized : ((seizeVoice v u p tag l s).player r).held =
      (s.player r).held - (if r = u.owner then 1 else 0) + (if r = p then 1 else 0) :=
    congrArg PlayerState.held (seizeVoice_player v u p tag l s r)
  rw [stealVoice_player v p tag l u s use]
  by_cases same : r = u.owner
  · rw [if_pos same, PlayerState.told_held, seized]
  · rw [if_neg same, seized]

theorem stealVoice_note (r : Player) :
    ((stealVoice v p tag l s).player r).note =
      if r = u.owner ∧ (s.voice v).state = .sounding then
        (s.player r).note.map fun n => { n with binding := n.binding.map (Binding.denyVoice v) }
      else (s.player r).note := by
  have seized : ((seizeVoice v u p tag l s).player r).note =
      if r = u.owner ∧ (s.voice v).state = .sounding then
        (s.player r).note.map fun n => { n with binding := n.binding.map (Binding.denyVoice v) }
      else (s.player r).note := by
    rw [seizeVoice_player]
    rcases eq_or_ne r u.owner with rfl | other
    · cases (s.voice v).state <;> simp [PlayerState.detached]
    · simp [other]
  rw [stealVoice_player v p tag l u s use]
  split
  · rw [PlayerState.told_note]; exact seized
  · exact seized

theorem stealVoice_stackList (r : Player) :
    ((stealVoice v p tag l s).player r).stackList =
      if r = u.owner ∧ (s.voice v).state = .latched then (s.player r).stackList.erase v else (s.player r).stackList := by
  have seized : ((seizeVoice v u p tag l s).player r).stackList =
      if r = u.owner ∧ (s.voice v).state = .latched then (s.player r).stackList.erase v else (s.player r).stackList := by
    rw [seizeVoice_player]
    rcases eq_or_ne r u.owner with rfl | other
    · cases (s.voice v).state <;> simp [PlayerState.detached, PlayerState.stackList, shrinkStack_flatMap]
    · simp [other, PlayerState.stackList]
  rw [stealVoice_player v p tag l u s use]
  split
  · rw [PlayerState.stackList_congr (PlayerState.told_latch ..)]; exact seized
  · exact seized

omit use in
theorem Binding.denyVoice_eq_iff {a b : Binding} (granted : b.item ≠ .denied) :
    a.denyVoice v = b ↔ a = b ∧ b.item ≠ .voice v := by
  unfold Binding.denyVoice
  split
  next taken =>
    constructor
    · rintro rfl
      exact absurd rfl granted
    · rintro ⟨rfl, other⟩
      exact absurd taken other
  next other =>
    constructor
    · rintro rfl
      exact ⟨rfl, other⟩
    · exact And.left

/-- The items of a note once a voice has been stolen: the voice's own item is gone. -/
theorem stealVoice_item (h : NotesSound s) (r : Player) (x : BitVec 8) (m : LayerId) {i : BindItem}
    (granted : i ≠ .denied) :
    HasItem (stealVoice v p tag l s) r x m i ↔ HasItem s r x m i ∧ i ≠ .voice v := by
  have note := stealVoice_note (p := p) (tag := tag) (l := l) use r
  by_cases robbed : r = u.owner ∧ (s.voice v).state = .sounding
  · rw [if_pos robbed] at note
    rw [HasItem, bound_of_map note]
    have denied (a : Binding) : a.denyVoice v = ⟨m, i⟩ ↔ a = ⟨m, i⟩ ∧ i ≠ .voice v := Binding.denyVoice_eq_iff granted
    simp only [denied]
    constructor
    · rintro ⟨a, ha, rfl, other⟩
      exact ⟨ha, other⟩
    · rintro ⟨ha, other⟩
      exact ⟨_, ha, rfl, other⟩
  · rw [if_neg robbed] at note
    rw [HasItem, bound_congr note]
    refine ⟨fun has => ⟨has, ?_⟩, And.left⟩
    rintro rfl
    obtain ⟨sounding, used⟩ := (h.voiceItem r x m v).1 has
    rw [use] at used
    cases used
    exact robbed ⟨rfl, sounding⟩

end

/-! ### A layer request (R86, R90 to R96) -/

theorem poolChoice_grant {s : State} {p : Player} {v : VoiceId} {rest : List VoiceId}
    (h : poolChoice s p = .grant v rest) : s.freeQueue = v :: rest := by
  have victims (o : Option VoiceId) : Answer.ofVictim o ≠ .grant v rest := by cases o <;> simp [Answer.ofVictim]
  unfold poolChoice at h
  split at h
  · exact absurd h (victims _)
  · split at h
    next queue => cases h; exact queue
    next => exact absurd h (victims _)

/-- A voice that a search takes is RELEASING, LATCHED or another player's SOUNDING one (R94). -/
theorem poolChoice_steal {s : State} {p : Player} {v : VoiceId} (h : poolChoice s p = .steal v) :
    (s.voice v).state = .releasing ∨ (s.voice v).state = .latched ∨
      (s.voice v).state = .sounding ∧ (s.voice v).owner ≠ some p := by
  have victims {o : Option VoiceId} (taken : Answer.ofVictim o = .steal v) : o = some v := by
    cases o <;> simp_all [Answer.ofVictim]
  unfold poolChoice at h
  split at h
  · rcases ownVictim_ownedIn (victims h) with releasing | latched
    · exact .inl releasing.1
    · exact .inr (.inl latched.1)
  · split at h
    next => cases h
    next => exact tierVictim_spares (victims h)

/-- An answer leaves every player's note as it was but for the binding list. -/
theorem answer_note_map {α : Type} {g : Note → α} (blind : ∀ n bs, g { n with binding := bs } = g n) (p : Player)
    (note : Note) (l : LayerId) (s : State) (a : Answer) (q : Player) :
    ((a.apply p note l s).player q).note.map g = (s.player q).note.map g := by
  cases a with
  | grant v rest =>
    rw [Answer.apply, grantVoice_player]
    split
    next same => rw [same]
    next => rfl
  | deny =>
    rw [Answer.apply, denyLayer_player]
    split
    next same => rw [PlayerState.placed_note, same]
    next => rfl
  | steal v =>
    rw [Answer.apply]
    cases use : (s.voice v).use with
    | none => rw [stealVoice_of_none v p note.tag l s use]
    | some u =>
      rw [stealVoice_note use]
      split
      · rw [Option.map_map, Function.comp_def]
        simp only [blind]
      · rfl

theorem answer_tag (p : Player) (note : Note) (l : LayerId) (s : State) (a : Answer) (q : Player) :
    ((a.apply p note l s).player q).note.map Note.tag = (s.player q).note.map Note.tag :=
  answer_note_map (fun _ _ => rfl) p note l s a q

section
variable (p : Player) (note : Note) (l : LayerId) (s : State)

theorem layerRequest_voice (v : VoiceId) :
    (layerRequest p note l s).voice v = ((poolChoice s p).apply p note l s).voice v := rfl

theorem layerRequest_freeQueue :
    (layerRequest p note l s).freeQueue = ((poolChoice s p).apply p note l s).freeQueue := rfl

theorem layerRequest_player (q : Player) :
    (layerRequest p note l s).player q =
      if q = p then
        { ((poolChoice s p).apply p note l s).player p with
          note := (((poolChoice s p).apply p note l s).player p).note.map fun n =>
            { n with binding := n.binding ++ [{ layer := l, item := (poolChoice s p).item }] } }
      else ((poolChoice s p).apply p note l s).player q :=
  State.player_modPlayer ..

theorem layerRequest_held (q : Player) :
    ((layerRequest p note l s).player q).held = (((poolChoice s p).apply p note l s).player q).held := by
  rw [layerRequest_player]
  split
  next same => rw [same]
  next => rfl

theorem layerRequest_stackList (q : Player) :
    ((layerRequest p note l s).player q).stackList = (((poolChoice s p).apply p note l s).player q).stackList := by
  rw [layerRequest_player]
  split
  next same => rw [same]; rfl
  next => rfl

/-- A layer request leaves every player's note as it was but for the binding list. -/
theorem layerRequest_note_map {α : Type} {g : Note → α} (blind : ∀ n bs, g { n with binding := bs } = g n) (q : Player) :
    ((layerRequest p note l s).player q).note.map g = (s.player q).note.map g := by
  rw [layerRequest_player, ← answer_note_map blind p note l s (poolChoice s p) q]
  split
  next same =>
    rw [same, Option.map_map, Function.comp_def]
    simp only [blind]
  next => rfl

theorem layerRequest_tag (q : Player) :
    ((layerRequest p note l s).player q).note.map Note.tag = (s.player q).note.map Note.tag :=
  layerRequest_note_map p note l s (fun _ _ => rfl) q

variable {p note s}

/-- A layer request adds the item of its answer to the note. -/
theorem layerRequest_item (tagged : (s.player p).note.map Note.tag = some note.tag) (q : Player) (x : BitVec 8)
    (m : LayerId) (i : BindItem) :
    HasItem (layerRequest p note l s) q x m i ↔
      HasItem ((poolChoice s p).apply p note l s) q x m i ∨
        q = p ∧ x = note.tag ∧ m = l ∧ i = (poolChoice s p).item := by
  rcases eq_or_ne q p with rfl | other
  · have appended := congrArg PlayerState.note ((layerRequest_player q note l s q).trans (if_pos rfl))
    rw [HasItem, bound_of_append appended, answer_tag, tagged]
    simp [HasItem, eq_comm]
  · have same := congrArg PlayerState.note ((layerRequest_player p note l s q).trans (if_neg other))
    rw [HasItem, bound_congr same]
    simp [HasItem, other]

end

/-- The pool while p's onset, of the tag, makes its requests. -/
structure Requesting (p : Player) (tag : BitVec 8) (s : State) : Prop where
  owners : OwnersSound s
  notes : NotesSound s
  latches : StacksSound s
  tagged : (s.player p).note.map Note.tag = some tag

section
variable {p : Player} {note : Note} {s : State} (h : Requesting p note.tag s) (l : LayerId)
include h

theorem Requesting.grant {v : VoiceId} {rest : List VoiceId} (choice : poolChoice s p = .grant v rest) :
    Requesting p note.tag (layerRequest p note l s) := by
  have queue := poolChoice_grant choice
  have voice (w : VoiceId) := layerRequest_voice p note l s w
  simp only [choice, Answer.apply, grantVoice_voice] at voice
  have others : SameOtherVoices v s (layerRequest p note l s) := fun w other => by rw [voice, if_neg other]
  have here : (layerRequest p note l s).voice v = freshVoice s p (s.setup note.setup) note.number (s.player p).bend
      note.tag l (s.stampCounter + 1) := by rw [voice, if_pos rfl]
  have state : ((layerRequest p note l s).voice v).state = .sounding := by rw [here]; rfl
  have use : ((layerRequest p note l s).voice v).use =
      some { owner := p, bus := p, tag := note.tag, layer := l } := by rw [here]; rfl
  have owner : ((layerRequest p note l s).voice v).owner = some p := by rw [Voice.owner, use]; rfl
  have claim : ((layerRequest p note l s).voice v).claim = none := by rw [here]; rfl
  have freed : (layerRequest p note l s).freeQueue = rest := by
    rw [layerRequest_freeQueue, choice]; rfl
  have once := h.owners.nodup
  rw [queue, List.nodup_cons] at once
  have was_free : (s.voice v).state = .free := (h.owners.queue v).1 (by simp [queue])
  have was_claim := h.notes.claim_eq_none (v := v) (by simp [was_free])
  have item (q : Player) (x : BitVec 8) (m : LayerId) (i : BindItem) :
      HasItem (layerRequest p note l s) q x m i ↔
        HasItem s q x m i ∨ q = p ∧ x = note.tag ∧ m = l ∧ i = .voice v := by
    rw [layerRequest_item l h.tagged, choice]
    refine or_congr (bound_congr ?_ x _) Iff.rfl
    rw [Answer.apply, grantVoice_player]
    split
    next same => rw [same]
    next => rfl
  refine ⟨⟨freed ▸ once.2, fun w => ?_, fun w => ?_, fun q => ?_⟩,
    h.notes.changed others (fun q x m i _ fresh _ => ?_) (fun c => ?_) (fun u _ => ?_) (fun q x m => ?_)
      (fun q x m => ?_),
    h.latches.kept (.changed others (by simp [was_free]) (by simp [state]) fun q => ?_), ?_⟩
  · rw [freed]
    rcases eq_or_ne w v with rfl | other
    · simp [state, once.1]
    · rw [others w other, ← h.owners.queue, queue]
      simp [other]
  · rcases eq_or_ne w v with rfl | other
    · simp [state, owner]
    · rw [others w other]; exact h.owners.owner w
  · have count := ownedCount_of_other others q
    have held := h.owners.held q
    rw [layerRequest_held, choice, Answer.apply, grantVoice_player]
    rw [owner, (h.owners.owner v).2 was_free] at count
    rcases eq_or_ne q p with rfl | other
    · simp_all
    · simp_all [Ne.symm other]
  · rw [item]; simp [fresh]
  · simp [claim]
  · rw [use]; rintro ⟨⟩; rfl
  · rw [item, use, state, h.notes.voiceItem, was_free]
    simp [eq_comm]
  · rw [item, claim, h.notes.claimItem, was_claim]
    simp
  · rw [layerRequest_stackList, choice, Answer.apply, grantVoice_player]
    split
    next same => rw [same]; rfl
    next => rfl
  · rw [layerRequest_tag, h.tagged]

theorem Requesting.deny (choice : poolChoice s p = .deny) : Requesting p note.tag (layerRequest p note l s) := by
  have voice (w : VoiceId) : (layerRequest p note l s).voice w = s.voice w := by
    rw [layerRequest_voice, choice]; rfl
  have freed : (layerRequest p note l s).freeQueue = s.freeQueue := by rw [layerRequest_freeQueue, choice]; rfl
  have denied (q : Player) : ((Answer.deny.apply p note l s).player q).note = (s.player q).note ∧
      ((Answer.deny.apply p note l s).player q).latch = (s.player q).latch ∧
      ((Answer.deny.apply p note l s).player q).held = (s.player q).held := by
    rw [Answer.apply, denyLayer_player]
    split
    next same => simp [same]
    next => simp
  refine ⟨h.owners.kept ⟨fun w => by rw [voice], fun w => by rw [voice], freed, fun q => ?_⟩,
    h.notes.kept ⟨fun w => by rw [voice], fun w _ => by rw [voice], fun w => by rw [voice],
      fun w c _ => by rw [voice]; exact ⟨id, rfl⟩, fun q x m i granted => ?_⟩,
    h.latches.kept ⟨fun w => by rw [voice], fun w _ => by rw [voice], fun q => ?_⟩, ?_⟩
  · rw [layerRequest_held, choice, (denied q).2.2]
  · rw [layerRequest_item l h.tagged, choice]
    simp [HasItem, Answer.item, granted, bound_congr (denied q).1]
  · rw [layerRequest_stackList, choice, PlayerState.stackList_congr (denied q).2.1]
  · rw [layerRequest_tag, h.tagged]

theorem Requesting.steal {v : VoiceId} (choice : poolChoice s p = .steal v) :
    Requesting p note.tag (layerRequest p note l s) := by
  have victim := poolChoice_steal choice
  have not_free : (s.voice v).state ≠ .free := by rcases victim with e | e | ⟨e, -⟩ <;> simp [e]
  have not_fading : (s.voice v).state ≠ .fading := by rcases victim with e | e | ⟨e, -⟩ <;> simp [e]
  have was_claim := h.notes.claim_eq_none not_fading
  obtain ⟨u, use⟩ : ∃ u, (s.voice v).use = some u := by
    refine Option.ne_none_iff_exists'.1 fun none => not_free ?_
    rwa [← h.owners.owner, Voice.owner_eq_none_iff]
  have owned : (s.voice v).owner = some u.owner := by rw [Voice.owner, use]; rfl
  have voice (w : VoiceId) := layerRequest_voice p note l s w
  simp only [choice, Answer.apply, stealVoice_voice v _ p note.tag l u s use] at voice
  have others : SameOtherVoices v s (layerRequest p note l s) := fun w other => by rw [voice, if_neg other]
  have state : ((layerRequest p note l s).voice v).state = .fading := by rw [voice, if_pos rfl]
  have owner : ((layerRequest p note l s).voice v).owner = some p := by rw [voice, if_pos rfl]; rfl
  have claim : ((layerRequest p note l s).voice v).claim = some { player := p, tag := note.tag, layer := l } := by
    rw [voice, if_pos rfl]
  have freed : (layerRequest p note l s).freeQueue = s.freeQueue := by
    rw [layerRequest_freeQueue, choice, Answer.apply, stealVoice_eq]
  have item (q : Player) (x : BitVec 8) (m : LayerId) {i : BindItem} (granted : i ≠ .denied) :
      HasItem (layerRequest p note l s) q x m i ↔
        HasItem s q x m i ∧ i ≠ .voice v ∨ q = p ∧ x = note.tag ∧ m = l ∧ i = .claim v := by
    rw [layerRequest_item l h.tagged, choice]
    exact or_congr (stealVoice_item use h.notes q x m granted) Iff.rfl
  have stack (q : Player) : ((layerRequest p note l s).player q).stackList =
      if q = u.owner ∧ (s.voice v).state = .latched then (s.player q).stackList.erase v
      else (s.player q).stackList := by
    rw [layerRequest_stackList, choice, Answer.apply, stealVoice_stackList use]
  refine ⟨⟨freed ▸ h.owners.nodup, fun w => ?_, fun w => ?_, fun q => ?_⟩,
    h.notes.changed others (fun q x m i granted voice_item claim_item => ?_) (fun c claimed => ?_) (fun u => ?_)
      (fun q x m => ?_) (fun q x m => ?_), ?_, ?_⟩
  · rw [freed, h.owners.queue]
    rcases eq_or_ne w v with rfl | other
    · simp [state, not_free]
    · rw [others w other]
  · rcases eq_or_ne w v with rfl | other
    · simp [state, owner]
    · rw [others w other]; exact h.owners.owner w
  · have count := ownedCount_of_other others q
    have held := h.owners.held q
    have some_held (own : u.owner = q) : 0 < ownedCount s q := ownedCount_pos (own ▸ owned)
    rw [layerRequest_held, choice, Answer.apply, stealVoice_held use]
    simp only [owner, owned, Option.some.injEq, eq_comm (b := q)] at count some_held
    split_ifs at count ⊢ <;> simp_all <;> omega
  · rw [item q x m granted]
    simp [voice_item, claim_item]
  · rw [claim] at claimed
    cases claimed
    exact ⟨state, owner⟩
  · simp [state]
  · rw [item q x m (by simp), state]
    simp
  · rw [item q x m (by simp), claim, h.notes.claimItem, was_claim]
    simp [eq_comm]
  · by_cases latched : (s.voice v).state = .latched
    · refine ⟨fun q w => ?_, fun q => ?_⟩
      · have here := h.latches.latched q w
        have once := h.latches.once q
        rw [stack]
        rcases eq_or_ne w v with rfl | other
        · rw [state]
          split
          next => simp [once.mem_erase_iff]
          next foreign =>
            rw [here, owned]
            simp only [latched, and_true] at foreign
            simp [Ne.symm foreign]
        · rw [others w other]
          split
          next => rw [once.mem_erase_iff]; simp [other, here]
          next => exact here
      · rw [stack]
        split
        next => exact (h.latches.once q).erase v
        next => exact h.latches.once q
    · exact h.latches.kept (.changed others latched (by simp [state]) fun q => by rw [stack, if_neg (by simp [latched])])
  · rw [layerRequest_tag, h.tagged]

theorem Requesting.layerRequest : Requesting p note.tag (layerRequest p note l s) := by
  cases choice : poolChoice s p with
  | grant v rest => exact h.grant l choice
  | steal v => exact h.steal l choice
  | deny => exact h.deny l choice

theorem Requesting.layerRequests (ls : List LayerId) :
    Requesting p note.tag (ls.foldl (fun t l => Machine.layerRequest p note l t) s) := by
  induction ls generalizing s with
  | nil => exact h
  | cons l ls ih => exact ih (h.layerRequest l)

end

/-! ### The onset decision (R86, R87) -/

theorem PlayingKept.reportOnset (p : Player) (note : Note) (s : State) : PlayingKept s (reportOnset p note s) := by
  have denials (items : List Binding) (t : State) : PlayingKept t (items.foldl
      (fun t b => Machine.report p .voiceDenied note.tag note.number 0 b.layer.val t) t) :=
    foldl_extends _ _ .refl .trans items t fun _ _ _ => .report ..
  exact (PlayingKept.report ..).trans (denials _ _)

theorem PoolWell.onsetDecision {s : State} (h : PoolWell s) (p : Player) (note : (s.player p).note = none) (n : Nat)
    (fl : RangeFlag) : PoolWell (onsetDecision p n fl s) := by
  have layers := h.layers.from (.onsetDecision p n fl s)
  unfold Machine.onsetDecision at layers ⊢
  have began : Requesting p (newNote s p n fl).tag (beginNote p (newNote s p n fl) s) := by
    have player (q : Player) : (beginNote p (newNote s p n fl) s).player q =
        if q = p then
          { s.player p with tagCounter := (newNote s p n fl).tag, note := some (newNote s p n fl) }
        else s.player q := State.player_modPlayer ..
    refine ⟨h.owners.kept ⟨fun _ => Iff.rfl, fun _ => rfl, rfl, fun q => ?_⟩,
      h.notes.kept ⟨fun _ => Iff.rfl, fun _ _ => rfl, fun _ => rfl, fun _ _ _ => ⟨id, rfl⟩, fun q tag l i _ => ?_⟩,
      h.latches.kept ⟨fun _ => Iff.rfl, fun _ _ => rfl, fun q => ?_⟩, ?_⟩
    · rw [player]
      split
      next same => rw [same]
      next => rfl
    · rcases eq_or_ne q p with rfl | other
      · refine iff_of_false ?_ (not_bound_of_none note _ _)
        rintro ⟨m, current, -, mem⟩
        rw [player, if_pos rfl] at current
        cases current
        cases mem
      · exact bound_congr (congrArg PlayerState.note ((player q).trans (if_neg other))) _ _
    · rw [player]
      split
      next same => rw [same]; rfl
      next => rfl
    · rw [player, if_pos rfl]; rfl
  have requested := began.layerRequests (enabledLayers (s.activeSetup p))
  have kept := (PlayingKept.reportOnset p (newNote s p n fl) ((enabledLayers (s.activeSetup p)).foldl
    (fun t l => layerRequest p (newNote s p n fl) l t) (beginNote p (newNote s p n fl) s))).poolKept
  exact ⟨requested.owners.kept kept.ownersKept, requested.notes.kept kept.notesKept,
    requested.latches.kept kept.stacksKept, layers⟩

end Sys2Proof.Machine


/-! Every operation of the part keeps the voice pool sound. -/

namespace Sys2Proof.Machine

/-! ### Notes that move, and their pitch and level (R17, R88, R121) -/

theorem PoolKept.refl (s : State) : PoolKept s s := (PlayingKept.refl s).poolKept

theorem PoolKept.trans {s t u : State} (h : PoolKept s t) (k : PoolKept t u) : PoolKept s u where
  state v := (k.state v).trans (h.state v)
  use v := (k.use v).trans (h.use v)
  claim v := (k.claim v).trans (h.claim v)
  freeQueue := k.freeQueue.trans h.freeQueue
  items p := (k.items p).trans (h.items p)
  stack p := (k.stack p).trans (h.stack p)
  held p := (k.held p).trans (h.held p)

/-- A function of voices that leaves what the pool's soundness speaks of. -/
structure Voice.Alike (a b : Voice) : Prop where
  state : b.state = a.state
  use : b.use = a.use
  claim : b.claim = a.claim

theorem PoolKept.foldl_modVoice {f : Voice → Voice} (alike : ∀ vo, Voice.Alike vo (f vo)) (l : List VoiceId)
    (s : State) : PoolKept s (l.foldl (fun t v => t.modVoice v f) s) := by
  refine foldl_extends _ _ .refl .trans l s fun t v _ =>
    .of_voices rfl (fun _ => rfl) fun w => ?_
  rw [State.voice_modVoice]
  split
  next same =>
    subst same
    exact ⟨(alike _).state, (alike _).use, (alike _).claim⟩
  next => exact ⟨rfl, rfl, rfl⟩

theorem Voice.Alike.retune (tuning : Int) (vo : Voice) : Alike vo (vo.retune tuning) := by
  rw [retune_eq]
  exact ⟨rfl, rfl, rfl⟩

theorem Voice.Alike.frameUpdate (tuning bend : Int) (vo : Voice) : Alike vo (vo.frameUpdate tuning bend) := by
  rw [Voice.frameUpdate, retune_eq]
  exact ⟨rfl, rfl, rfl⟩

theorem Voice.Alike.rendered (vo : Voice) : Alike vo vo.rendered := by
  unfold Voice.rendered
  split <;> exact ⟨rfl, rfl, rfl⟩

theorem PoolKept.changeDecision (p : Player) (n : Nat) (fl : RangeFlag) (s : State) :
    PoolKept s (changeDecision p n fl s) := by
  cases current : (s.player p).note with
  | none => simpa [Machine.changeDecision, current] using PoolKept.refl s
  | some note =>
    have voice (v : VoiceId) : Voice.Alike (s.voice v) ((Machine.changeDecision p n fl s).voice v) := by
      rw [changeDecision_voice current]
      split <;> exact ⟨rfl, rfl, rfl⟩
    have player (q : Player) := changeDecision_player current n fl q
    refine ⟨fun v => (voice v).state, fun v => (voice v).use, fun v => (voice v).claim,
      by rw [changeDecision_eq current], fun q => ?_, fun q => ?_, fun q => ?_⟩ <;> rw [player] <;> split
    next same => rw [same, current, PlayerState.queued_note]; rfl
    next => rfl
    next same => rw [same, PlayerState.stackList, PlayerState.queued_latch]; rfl
    next => rfl
    next same => rw [same, PlayerState.queued_held]
    next => rfl

theorem PoolKept.updatePitch (p : Player) (s : State) : PoolKept s (updatePitch p s) :=
  .foldl_modVoice (.frameUpdate _ _) _ s

theorem PoolKept.handOff (p : Player) (s : State) : PoolKept s (handOff p s) :=
  .foldl_modVoice (f := handedVoice (s.player p).level) (fun _ => ⟨rfl, rfl, rfl⟩) _ s

/-! ### A frame (R85, R108) -/

theorem decisionFor_onset_note {r : BreathReport} {b : BreathState} {res : Resolution} {policy : Policy}
    {note : Option Note} {n : Nat} {fl : RangeFlag} (h : decisionFor r b res policy note = .onset n fl) : note = none := by
  cases note with
  | none => rfl
  | some current => cases r <;> cases res <;> simp [decisionFor, ite_eq_iff] at h

theorem PoolWell.decide {s : State} (h : PoolWell s) (p : Player) (r : BreathReport) (res : Resolution) :
    PoolWell (decide p r res s) := by
  unfold Machine.decide
  cases taken : decisionFor r (s.player p).breath res (s.activeSetup p).policy (s.player p).note with
  | none => exact h
  | onset n fl => exact h.onsetDecision p (decisionFor_onset_note taken) n fl
  | change n fl => exact h.kept (.changeDecision ..)
  | off reason => exact h.offDecision p reason

theorem PoolWell.push {s : State} (h : PoolWell s) {p : Player} {note : Note} (current : (s.player p).note = some note) :
    PoolWell (push p note s) := by
  have latched := (h.makeRoom p).latchNote ((makeRoom_note p s p).trans current)
  exact latched.onsetDecision p (by simp [latchNote_player]) ..

theorem PoolWell.press {s : State} (h : PoolWell s) (p : Player) : PoolWell (press p s) := by
  unfold Machine.press
  split
  next current =>
    split
    · exact h
    · exact h.push current
  next => exact h
  next => exact h.clearStack p 1
  next => exact h.clearStack p 1
  next => exact h.clearStack p 1
  next => exact h

theorem PoolWell.latchButton {s : State} (h : PoolWell s) (p : Player) (down : Bool) :
    PoolWell (latchButton p down s) := by
  have seen : PoolWell (s.modPlayer p fun ps => { ps with latchSeen := down }) := h.played (.modPlayer rfl rfl rfl)
  unfold Machine.latchButton
  dsimp only
  split
  · exact seen.press p
  · exact seen

theorem PoolWell.acceptSense {s : State} (h : PoolWell s) (p : Player) (seq : BitVec 4) (f : SenseFields) :
    PoolWell (acceptSense p seq f s) := by
  have resolved : PoolWell (frameResolved p f s) := h.played (.frameResolved ..)
  have decided : PoolWell (frameDecided p f s) := resolved.decide ..
  have latched := (decided.kept (.updatePitch p _)).latchButton p f.latch
  have handed : PoolWell (frameHanded p f s) := latched.kept (.handOff p _)
  rw [acceptSense_eq]
  exact (handed.played (.deferredSetup ..)).played (.openSlot ..)

theorem PoolWell.takeSense {s : State} (h : PoolWell s) (p : Player) (f : FrameBody) : PoolWell (takeSense p f s) := by
  unfold Machine.takeSense
  split
  · exact h
  · exact (h.played (.checkSequence ..)).acceptSense ..
  · exact (h.played (.bringUp ..)).acceptSense ..

/-! ### Links (R158, R160, R161) -/

theorem PoolWell.leaveUp {s : State} (h : PoolWell s) (p : Player) (cause : LostCause) (after : LinkState) :
    PoolWell (leaveUp p cause after s) := by
  have unlinked : PoolWell (s.modPlayer p (PlayerState.unlinked after)) := h.played (.modPlayer rfl rfl rfl)
  have quiet := (unlinked.played (.report _ p .linkLost 0 0 0 cause.code)).played
    (.modPlayer (p := p) (f := fun ps => { ps with breath := .quiet }) rfl rfl rfl)
  have cleared := ((quiet.offDecision p .link).clearStack p 2).played
    (.modPlayer (p := p) (f := fun ps => { ps with latchSeen := false }) rfl rfl rfl)
  exact (cleared.played (.endLearn ..)).played (.deferredSetup ..)

theorem PoolWell.resetLink {s : State} (h : PoolWell s) (p : Player) : PoolWell (resetLink p s) := by
  have reset : PoolWell (s.modPlayer p PlayerState.resetReceiver) := h.played (.modPlayer rfl rfl rfl)
  have left : PoolWell (if (s.player p).link = .up then
      Machine.leaveUp p .reset .down (s.modPlayer p PlayerState.resetReceiver)
    else s.modPlayer p PlayerState.resetReceiver) := by
    split
    · exact reset.leaveUp ..
    · exact reset
  exact left.played (.modPlayer rfl rfl rfl)

theorem PoolWell.writeLinkEnable {s : State} (h : PoolWell s) (p : Player) (v : Byte) :
    PoolWell (writeLinkEnable p v s) := by
  unfold Machine.writeLinkEnable disableLink enableLink
  dsimp only
  split_ifs
  · exact h
  · exact h.played (.modPlayer rfl rfl rfl)
  · exact PoolWell.leaveUp (h.played (.modPlayer rfl rfl rfl)) ..
  · exact h.played (.modPlayer rfl rfl rfl)

/-! ### The ends of fades and releases (R99 to R101) -/

theorem PoolWell.freeVoice {s : State} (h : PoolWell s) {v : VoiceId} (unclaimed : (s.voice v).claim = none)
    (ended : (s.voice v).state = .fading ∨ (s.voice v).state = .releasing) : PoolWell (freeVoice v s) := by
  have voice (w : VoiceId) := freeVoice_voice v w s
  have others : SameOtherVoices v s (Machine.freeVoice v s) := fun w other => by rw [voice, if_neg other]
  have state : ((Machine.freeVoice v s).voice v).state = .free := by rw [voice, if_pos rfl]
  have use : ((Machine.freeVoice v s).voice v).use = none := by rw [voice, if_pos rfl]
  have owner : ((Machine.freeVoice v s).voice v).owner = none := by rw [Voice.owner, use]; rfl
  have claim : ((Machine.freeVoice v s).voice v).claim = none := by rw [voice, if_pos rfl]
  have freed : (Machine.freeVoice v s).freeQueue = s.freeQueue ++ [v] := by rw [freeVoice_eq]
  have not_free : (s.voice v).state ≠ .free := by rcases ended with e | e <;> simp [e]
  have not_sounding : (s.voice v).state ≠ .sounding := by rcases ended with e | e <;> simp [e]
  have not_latched : (s.voice v).state ≠ .latched := by rcases ended with e | e <;> simp [e]
  have fresh : v ∉ s.freeQueue := fun mem => not_free ((h.owners.queue v).1 mem)
  have record (q : Player) : ((Machine.freeVoice v s).player q).note = (s.player q).note ∧
      ((Machine.freeVoice v s).player q).latch = (s.player q).latch := by
    rw [freeVoice_player]
    split <;> exact ⟨rfl, rfl⟩
  have item (q : Player) (x : BitVec 8) (m : LayerId) (i : BindItem) :
      HasItem (Machine.freeVoice v s) q x m i ↔ HasItem s q x m i := bound_congr (record q).1 x _
  refine ⟨⟨?_, fun w => ?_, fun w => ?_, fun q => ?_⟩,
    h.notes.changed others (fun q x m i _ _ _ => item q x m i) (by simp [claim]) (by simp [state])
      (fun q x m => ?_) (fun q x m => ?_),
    h.latches.kept (.changed others not_latched (by simp [state]) fun q => PlayerState.stackList_congr (record q).2),
    h.layers.from (.of_players fun q => (record q).1)⟩
  · rw [freed]
    refine List.nodup_append.2 ⟨h.owners.nodup, List.nodup_singleton v, fun w mem x here same => fresh ?_⟩
    rwa [← List.mem_singleton.1 here, ← same]
  · rw [freed, List.mem_append, List.mem_singleton, h.owners.queue]
    rcases eq_or_ne w v with rfl | other
    · simp [state]
    · rw [others w other]; simp [other]
  · rcases eq_or_ne w v with rfl | other
    · simp [state, owner]
    · rw [others w other]; exact h.owners.owner w
  · have count := ownedCount_of_other others q
    have held := h.owners.held q
    simp only [owner, reduceCtorEq, if_false] at count
    rw [freeVoice_player]
    by_cases own : (s.voice v).owner = some q
    · rw [if_pos own] at count ⊢
      dsimp only
      omega
    · rw [if_neg own] at count ⊢
      omega
  · rw [item, h.notes.voiceItem]
    simp [not_sounding, state]
  · rw [item, h.notes.claimItem, unclaimed, claim]

theorem Binding.handOver_eq_claim_iff (v w : VoiceId) (l : LayerId) (b : Binding) :
    b.handOver v = ⟨l, .claim w⟩ ↔ b = ⟨l, .claim w⟩ ∧ w ≠ v := by
  obtain ⟨m, i⟩ := b
  unfold Binding.handOver
  split
  next claimed =>
    obtain rfl : i = .claim v := claimed
    simp [eq_comm]
  next other =>
    constructor
    · intro same
      cases same
      exact ⟨rfl, fun same => other (by rw [same])⟩
    · exact And.left

theorem Binding.handOver_eq_voice_iff (v w : VoiceId) (l : LayerId) (b : Binding) :
    b.handOver v = ⟨l, .voice w⟩ ↔ b = ⟨l, .voice w⟩ ∨ w = v ∧ b = ⟨l, .claim v⟩ := by
  obtain ⟨m, i⟩ := b
  unfold Binding.handOver
  split
  next claimed =>
    obtain rfl : i = .claim v := claimed
    simp [eq_comm, and_comm]
  next other => simp_all

theorem PoolWell.handOver {s : State} (h : PoolWell s) {v : VoiceId} {c : Claim} (claimed : (s.voice v).claim = some c)
    {note : Note} : PoolWell (handOver v c note s) := by
  obtain ⟨fading, owned⟩ := h.notes.claims v c claimed
  have voice (w : VoiceId) := handOver_voice v w c note s
  have others : SameOtherVoices v s (Machine.handOver v c note s) := fun w other => by rw [voice, if_neg other]
  have state : ((Machine.handOver v c note s).voice v).state = .sounding := by rw [voice, if_pos rfl]; rfl
  have use : ((Machine.handOver v c note s).voice v).use =
      some { owner := c.player, bus := c.player, tag := c.tag, layer := c.layer } := by rw [voice, if_pos rfl]; rfl
  have owner : ((Machine.handOver v c note s).voice v).owner = some c.player := by rw [Voice.owner, use]; rfl
  have claim : ((Machine.handOver v c note s).voice v).claim = none := by rw [voice, if_pos rfl]; rfl
  have item (q : Player) (x : BitVec 8) (b : Binding) : Bound (Machine.handOver v c note s) q x b ↔
      if q = c.player then ∃ a, Bound s q x a ∧ a.handOver v = b else Bound s q x b := by
    have player := congrArg PlayerState.note (handOver_player v c note s q)
    split
    next same => exact bound_of_map (player.trans (by rw [if_pos same])) x b
    next other => exact bound_congr (player.trans (by rw [if_neg other])) x b
  have claim_item (q : Player) (x : BitVec 8) (m : LayerId) (w : VoiceId) :
      HasItem (Machine.handOver v c note s) q x m (.claim w) ↔ HasItem s q x m (.claim w) ∧ w ≠ v := by
    rw [HasItem, item]
    split
    next =>
      simp only [Binding.handOver_eq_claim_iff]
      exact ⟨by rintro ⟨a, ha, rfl, other⟩; exact ⟨ha, other⟩, fun ⟨ha, other⟩ => ⟨_, ha, rfl, other⟩⟩
    next foreign =>
      refine ⟨fun has => ⟨has, ?_⟩, And.left⟩
      rintro rfl
      have same := claimed.symm.trans ((h.notes.claimItem q x m w).1 has)
      cases same
      exact foreign rfl
  have voice_item (q : Player) (x : BitVec 8) (m : LayerId) (w : VoiceId) :
      HasItem (Machine.handOver v c note s) q x m (.voice w) ↔
        HasItem s q x m (.voice w) ∨ w = v ∧ HasItem s q x m (.claim v) := by
    rw [HasItem, item]
    split
    next =>
      simp only [Binding.handOver_eq_voice_iff]
      constructor
      · rintro ⟨a, ha, rfl | ⟨rfl, rfl⟩⟩
        · exact .inl ha
        · exact .inr ⟨rfl, ha⟩
      · rintro (ha | ⟨rfl, ha⟩)
        · exact ⟨_, ha, .inl rfl⟩
        · exact ⟨_, ha, .inr ⟨rfl, rfl⟩⟩
    next foreign =>
      refine ⟨.inl, fun has => has.resolve_right ?_⟩
      rintro ⟨rfl, has⟩
      have same := claimed.symm.trans ((h.notes.claimItem q x m w).1 has)
      cases same
      exact foreign rfl
  have record (q : Player) : ((Machine.handOver v c note s).player q).latch = (s.player q).latch ∧
      ((Machine.handOver v c note s).player q).held = (s.player q).held ∧
      ((Machine.handOver v c note s).player q).layerList = (s.player q).layerList := by
    rw [handOver_player]
    split
    · exact ⟨rfl, rfl, PlayerState.layerList_of_map _ (Binding.handOver_layer v) rfl⟩
    · exact ⟨rfl, rfl, rfl⟩
  refine ⟨h.owners.kept ⟨fun w => ?_, fun w => ?_, by rw [handOver_eq], fun q => (record q).2.1⟩,
    h.notes.changed others (fun q x m i granted voice_other claim_other => ?_) (by simp [claim]) (fun u _ => ?_)
      (fun q x m => ?_) (fun q x m => ?_),
    h.latches.kept (.changed others (by simp [fading]) (by simp [state]) fun q =>
      PlayerState.stackList_congr (record q).1),
    h.layers.from ⟨fun q => .inl (record q).2.2⟩⟩
  · rcases eq_or_ne w v with rfl | other
    · simp [state, fading]
    · rw [others w other]
  · rcases eq_or_ne w v with rfl | other
    · rw [owner, owned]
    · rw [others w other]
  · cases i with
    | denied => exact absurd rfl granted
    | voice w =>
      have other : w ≠ v := fun same => voice_other (by rw [same])
      simp [voice_item, other]
    | claim w =>
      have other : w ≠ v := fun same => claim_other (by rw [same])
      simp [claim_item, other]
  · rw [use]; rintro ⟨⟩; rfl
  · rw [voice_item, h.notes.voiceItem, h.notes.claimItem, claimed, fading, state, use]
    constructor
    · rintro (⟨unequal, -⟩ | ⟨-, same⟩)
      · cases unequal
      · cases same
        exact ⟨rfl, rfl⟩
    · rintro ⟨-, same⟩
      obtain ⟨rfl, rfl, rfl⟩ : c.player = q ∧ c.tag = x ∧ c.layer = m := by simpa using same
      exact .inr ⟨rfl, rfl⟩
  · rw [claim_item, claim]
    simp

theorem PoolWell.takeFadeEnd {s : State} (h : PoolWell s) {v : VoiceId} (fading : (s.voice v).state = .fading) :
    PoolWell (takeFadeEnd v s) := by
  unfold Machine.takeFadeEnd
  cases claimed : (s.voice v).claim with
  | none => exact h.freeVoice claimed (.inl fading)
  | some c =>
    obtain ⟨n, current, -⟩ := (h.notes.claimItem c.player c.tag c.layer v).2 claimed
    simp only [current]
    exact h.handOver claimed

/-! ### The whole part -/

theorem PoolWell.panicAll {s : State} (h : PoolWell s) : PoolWell (panicAll s) := by
  have state (v : VoiceId) : ((Machine.panicAll s).voice v).state =
      if (s.voice v).state = .free then .free else .fading := by
    rw [panicAll_voice, Voice.panicked]
    split
    next free => exact free
    next => rfl
  have use (v : VoiceId) : ((Machine.panicAll s).voice v).use = (s.voice v).use := by
    rw [panicAll_voice, Voice.panicked]
    split <;> rfl
  have note (p : Player) : ((Machine.panicAll s).player p).note = none := by
    rw [panicAll_player, panicRecord, PlayerState.queuedAll_note]
  refine ⟨h.owners.kept ⟨fun v => ?_, fun v => Voice.owner_congr (use v), ?_, fun p => ?_⟩,
    .of_silent note (fun v => ?_) (fun v => ?_), .of_empty (fun p => ?_) (fun v => ?_), .of_silent note⟩
  · rw [state]
    split
    next free => simp [free]
    next busy => simp [busy]
  · rw [panicAll_eq]
  · rw [panicAll_player, panicRecord, PlayerState.queuedAll_held]
  · rw [state]; split <;> simp
  · rw [panicAll_voice, Voice.panicked]
    split
    next free => exact h.notes.claim_eq_none (by simp [free])
    next => rfl
  · rw [panicAll_player, panicRecord, PlayerState.stackList, PlayerState.queuedAll_latch]
    rfl
  · rw [state]; split <;> simp

/-- With every voice FREE in the full free queue and no player holding anything, the pool is sound. -/
theorem PoolWell.of_silent {t : State} (voice : ∀ v, t.voice v = resetVoice) (freeQueue : t.freeQueue = fullFreeQueue)
    (note : ∀ p, (t.player p).note = none) (latch : ∀ p, (t.player p).latch = [])
    (held : ∀ p, (t.player p).held = 0) : PoolWell t := by
  refine ⟨⟨?_, fun v => ?_, fun v => ?_, fun p => ?_⟩, .of_silent note (fun v => ?_) (fun v => ?_),
    .of_empty (fun p => ?_) (fun v => ?_), .of_silent note⟩
  · rw [freeQueue]; exact List.nodup_finRange _
  · rw [freeQueue, voice]; simp [fullFreeQueue, resetVoice]
  · rw [voice]; simp [Voice.owner, resetVoice]
  · rw [held, ownedCount]; simp [voice, Voice.owner, resetVoice]
  · rw [voice]; simp [resetVoice]
  · rw [voice]; rfl
  · rw [PlayerState.stackList, latch]; rfl
  · rw [voice]; simp [resetVoice]

theorem PoolWell.reset : PoolWell State.reset :=
  .of_silent State.reset_voice rfl (fun p => by rw [State.reset_player]; rfl) (fun p => by rw [State.reset_player]; rfl)
    fun p => by rw [State.reset_player]; rfl

theorem PoolWell.softResetAll (s : State) : PoolWell (softResetAll s) :=
  .of_silent (softResetAll_voice s) rfl (fun p => by rw [softResetAll_player]; rfl)
    (fun p => by rw [softResetAll_player]; rfl) fun p => by rw [softResetAll_player]; rfl

theorem PoolKept.renderPeriod (s : State) : PoolKept s (renderPeriod s) := by
  have alike (v : VoiceId) : Voice.Alike (s.voice v) ((Machine.renderPeriod s).voice v) := by
    rw [renderPeriod_voice]; exact .rendered _
  have player (p : Player) : (Machine.renderPeriod s).player p =
      { s.player p with silence := ((s.player p).countSilence).silence } := by
    rw [renderPeriod_player, PlayerState.countSilence_eq]
  exact ⟨fun v => (alike v).state, fun v => (alike v).use, fun v => (alike v).claim, rfl,
    fun p => by rw [player], fun p => by rw [player]; rfl, fun p => by rw [player]⟩

theorem TableWrite.poolKept {s t : State} (w : TableWrite s t) : PoolKept s t := by
  cases w with
  | tuning v =>
    refine .of_voices rfl (fun _ => rfl) fun w => ?_
    have written : (writeTuning v s).voice w =
        if (s.voice w).state = .free then s.voice w else (s.voice w).retune (tuningOf v) := by
      simp only [writeTuning, State.voice_modVoices]
      rfl
    rw [written]
    split
    · exact ⟨rfl, rfl, rfl⟩
    · have alike := Voice.Alike.retune (tuningOf v) (s.voice w)
      exact ⟨alike.state, alike.use, alike.claim⟩
  | mask | mode | polarity | masterGain | directGain | setupHalf | setupByte | point | wave | clips =>
    exact .of_voices rfl (fun _ => rfl) fun _ => ⟨rfl, rfl, rfl⟩

theorem Effects.poolWell {s t : State} (h : PoolWell s) (effects : Effects s t) : PoolWell t := by
  have cleared (p : Player) : PoolWell (clearReceived p s) := h.played (.clearReceived p s)
  cases effects with
  | idle => exact h
  | powerOn =>
    exact .of_silent State.reset_voice rfl (fun p => congrArg PlayerState.note (State.reset_player p))
      (fun p => congrArg PlayerState.latch (State.reset_player p)) fun p => congrArg PlayerState.held (State.reset_player p)
  | samplePeriod => exact h.kept (.renderPeriod s)
  | fadeEnd v due =>
    obtain ⟨fading, -⟩ : (s.voice v).state = .fading ∧ _ := by simpa [fadeEndDue] using due
    exact h.takeFadeEnd fading
  | releaseEnd v due =>
    obtain ⟨releasing, -⟩ : (s.voice v).state = .releasing ∧ _ := by simpa [releaseEndDue] using due
    exact h.freeVoice (h.notes.claim_eq_none (by simp [releasing])) (.inr releasing)
  | learnTimeout p => exact h.played (.endLearn ..)
  | silenceTimeout p =>
    have flagged : PoolWell (raiseFlag p linkLost s) := h.played (.raiseFlag ..)
    exact PoolWell.leaveUp (flagged.played (.modPlayer rfl rfl rfl)) ..
  | sense p f => exact (cleared p).takeSense p f
  | hello p f => exact (cleared p).played (.takeHello ..)
  | learnReq p f => exact (cleared p).played (.takeLearnReq ..)
  | keeps p k => exact h.played k.playingKept
  | softReset => exact .softResetAll s
  | panic => exact h.panicAll
  | restore n => exact h.played (.preempt _ ⟨fun _ => rfl, rfl, fun _ => rfl, fun _ => rfl, fun _ => rfl⟩)
  | linkReset p => exact h.resetLink p
  | linkEnable p v => exact h.writeLinkEnable p v
  | entryFlags n e hold v =>
    exact h.played (.preempt _ ⟨fun _ => rfl, rfl, fun _ => rfl, fun _ => rfl, fun _ => rfl⟩)
  | reserve p | ceiling p => exact h.played (.modPlayer rfl rfl rfl)
  | table w => exact h.kept w.poolKept

/-- Settles O6: owners, notes and stacks are each kept by every operation. -/
theorem stepKeepsPoolSound : Obligations.StepKeepsPoolSound := fun _ _ h run =>
  (step_keeps (I := PoolWell)
    (fun s t e k => by
      rw [e]
      exact k.played ⟨fun _ => rfl, rfl, fun _ => rfl, fun _ => rfl, fun _ => rfl⟩)
    (fun _ _ => Effects.poolWell) h.well run).sound

/-- Settles O12: nothing plays after reset, every link is DOWN and every table has its power-on contents. -/
theorem resetMeetsTheInvariants : Obligations.ResetMeetsTheInvariants := by
  have linked : AllLinked State.reset := ⟨fun p => by
    rw [State.reset_player]
    constructor <;> simp [PlayerState.reset]⟩
  have ranged := Ranged.reset
  refine ⟨PoolWell.reset.sound, QueuesBounded.reset, linked.claims.2, .of_none (fun p => ?_) State.reset_reservation,
    linked.claims.1, soundInRange_of ranged.settings ranged.playing ranged.layers, State.reset_waves_wf⟩
  rw [State.reset_player]
  rfl

end Sys2Proof.Machine


/-! The renderer, the ends of fades and releases, layer requests and steals, event and reply queues, and commands that
find no event. -/

namespace Sys2Proof.Machine

/-! ### Commands by their effect -/

theorem exec_of_effect {c : Instr} {s a : State} (h : effect c s = a) : exec c s = .next (settleLine s a) := by
  rw [exec_eq, h]

theorem changesNothing_of_effect {c : Instr} {s : State} (h : effect c s = s) : ChangesNothing c s :=
  ⟨_, exec_of_effect h, settleLine_eq s s⟩

/-! ### Events that have not been raised (log 1) -/

theorem fadeEndDue_iff (v : VoiceId) (s : State) :
    fadeEndDue v s = true ↔ (s.voice v).state = .fading ∧ (s.voice v).endReported = true := by simp [fadeEndDue]

theorem releaseEndDue_iff (v : VoiceId) (s : State) :
    releaseEndDue v s = true ↔ (s.voice v).state = .releasing ∧ (s.voice v).endReported = true := by
  simp [releaseEndDue]

theorem silenceDue_iff (p : Player) (s : State) :
    silenceDue p s = true ↔ (s.player p).link = .up ∧ (s.player p).silence = some 2400 := by
  rw [silenceDue, silenceLimit]
  simp

theorem learnDue_iff (p : Player) (s : State) :
    learnDue p s = true ↔ ∃ r, (s.player p).learn = some r ∧ r.deadline = s.sampleCount := by
  unfold learnDue
  cases (s.player p).learn <;> simp

section
variable {p : Player} {s : State}

theorem sendStart_of_not_open (closed : ∀ q, (s.player p).slot ≠ .opened q) : sendStart p s = s := by
  unfold sendStart
  split
  next => rfl
  next => rfl
  next q slot => exact absurd slot (closed q)

theorem closeSlot_of_not_open (closed : ∀ q, (s.player p).slot ≠ .opened q) : closeSlot p s = s := by
  unfold closeSlot
  split
  next q slot => exact absurd slot (closed q)
  next => rfl
  next => rfl

theorem sendDone_of_not_sending (silent : ∀ x, (s.player p).slot ≠ .sending x) : sendDone p s = s := by
  unfold sendDone
  split
  next x slot => exact absurd slot (silent x)
  next => rfl
  next => rfl

theorem collide_of_not_sending (silent : ∀ x, (s.player p).slot ≠ .sending x) : collide p s = s := by
  unfold collide
  split
  next x slot => exact absurd slot (silent x)
  next => rfl
  next => rfl

end

/-- Settles O18: the effect of a command whose event has not been raised is the state itself. -/
theorem unraisedEventsChangeNothing : Obligations.UnraisedEventsChangeNothing := by
  intro s
  refine ⟨fun v idle => ?_, fun v idle => ?_, fun p idle => ?_, fun p idle => ?_, fun p closed => ⟨?_, ?_⟩,
    fun p silent => ⟨?_, ?_⟩⟩ <;> refine changesNothing_of_effect ?_
  · exact if_neg (by rwa [fadeEndDue_iff])
  · exact if_neg (by rwa [releaseEndDue_iff])
  · refine if_neg ?_
    rw [learnDue_iff]
    rintro ⟨r, learn, due⟩
    exact idle r learn due
  · exact if_neg (by rwa [silenceDue_iff])
  · exact sendStart_of_not_open closed
  · exact closeSlot_of_not_open closed
  · exact sendDone_of_not_sending silent
  · exact collide_of_not_sending silent

/-! ### Event and reply queues (R162, R177) -/

theorem PlayerState.queued_of_room {ps : PlayerState} (room : ps.events.length < 32) (e : EventRecord) :
    ps.queued e = { ps with events := ps.events ++ [e] } := if_pos room

theorem PlayerState.queued_of_full {ps : PlayerState} (full : 32 ≤ ps.events.length) (e : EventRecord) :
    ps.queued e = { ps with statusA := ps.statusA ||| 0x40 } := if_neg (Nat.not_lt.2 full)

theorem PlayerState.placed_of_room {ps : PlayerState} (room : ps.replies.length < 8) (r : Reply) :
    ps.placed r = { ps with replies := ps.replies ++ [r] } := if_pos room

theorem PlayerState.placed_of_full {ps : PlayerState} (full : 8 ≤ ps.replies.length) (r : Reply) :
    ps.placed r = { ps with statusA := ps.statusA ||| 0x80 } := if_neg (Nat.not_lt.2 full)

/-- Settles O23, by the length of the queue. -/
theorem queuesRefuseWhenFull : Obligations.QueuesRefuseWhenFull := by
  refine ⟨fun p kind tag note flags value s => ⟨fun q other => report_player_other _ _ _ _ _ _ _ other, fun room => ?_,
    fun full => ?_⟩, fun p r s => ⟨fun q other => placeReply_player_other _ _ _ other, fun room => ?_, fun full => ?_⟩⟩
  · rw [report_player_self, PlayerState.queued_of_room room]
  · rw [report_player_self, PlayerState.queued_of_full full]
  · rw [placeReply_player_self, PlayerState.placed_of_room room]
  · rw [placeReply_player_self, PlayerState.placed_of_full full]

/-! ### Ends of fades and releases (R99 to R101) -/

/-- A voice that is freed joins the tail of the free queue, and its owner holds one voice less. -/
theorem freeVoice_frees {v : VoiceId} {u : VoiceUse} {s : State} (use : (s.voice v).use = some u) :
    let t := settleLine s (freeVoice v s)
    t = { s with
      voices := t.voices, freeQueue := s.freeQueue ++ [v], players := t.players, pulse := t.pulse,
      irqHigh := t.irqHigh } ∧
    t.voice v = { s.voice v with state := .free, use := none, claim := none, endReported := false } ∧
    SameOtherVoices v s t ∧
    t.player u.owner = { s.player u.owner with held := (s.player u.owner).held - 1 } ∧
    SameOthers u.owner s t := by
  have owner : (s.voice v).owner = some u.owner := by rw [Voice.owner, use]; rfl
  refine ⟨?_, ?_, fun w other => ?_, ?_, fun q other => ?_⟩
  · rw [freeVoice_eq]
    exact settleLine_eq ..
  · rw [settleLine_voice, freeVoice_voice, if_pos rfl]
  · rw [settleLine_voice, freeVoice_voice, if_neg other]
  · rw [settleLine_player, freeVoice_player, if_pos owner]
  · rw [settleLine_player, freeVoice_player, if_neg (by simp [owner, Ne.symm other])]

/-- Settles O16. -/
theorem endsFreeTheVoice : Obligations.EndsFreeTheVoice := by
  constructor
  · intro v u s fading reported unclaimed use
    have due := (fadeEndDue_iff v s).2 ⟨fading, reported⟩
    have taken : effect (.fadeEnd v) s = freeVoice v s := by simp [effect, due, takeFadeEnd, unclaimed]
    obtain ⟨frame, voice, others, player, players⟩ := freeVoice_frees use
    exact ⟨_, exec_of_effect taken, frame, by rw [voice, ← unclaimed], others, player, players⟩
  · intro v u s releasing reported use
    have due := (releaseEndDue_iff v s).2 ⟨releasing, reported⟩
    exact ⟨_, exec_of_effect (if_pos due), freeVoice_frees use⟩

/-- Settles O17: the claim's item becomes the voice, and the voice is set up afresh. -/
theorem fadeEndHandsOverClaimedVoice : Obligations.FadeEndHandsOverClaimedVoice := by
  intro v c note s fading reported claimed current
  have due := (fadeEndDue_iff v s).2 ⟨fading, reported⟩
  have taken : effect (.fadeEnd v) s = handOver v c note s := by simp [effect, due, takeFadeEnd, claimed, current]
  refine ⟨_, exec_of_effect taken, settleLine_eq .., ?_, fun w other => ?_,
    ⟨note.binding.map (Binding.handOver v), ?_, List.length_map _, fun i h h' => ?_⟩, fun q other => ?_⟩
  · rw [settleLine_voice, handOver_voice, if_pos rfl]
  · rw [settleLine_voice, handOver_voice, if_neg other]
  · rw [settleLine_player, handOver_player, if_pos rfl, current]
    rfl
  · rw [List.getElem_map, Binding.handOver]
    exact ⟨fun claim => if_pos claim, fun other => if_neg other⟩
  · rw [settleLine_player, handOver_player, if_neg other]

/-! ### Layer requests (R86, R90, R91, R95) -/

section
variable {s : State} {p : Player}

theorem poolChoice_of_free {v : VoiceId} {rest : List VoiceId} (below : (s.player p).held < (s.player p).ceiling)
    (queue : s.freeQueue = v :: rest) : poolChoice s p = .grant v rest := by
  rw [poolChoice, if_neg (Nat.not_le.2 below), queue]

/-- What the searches give is stolen, and a layer is denied where they give nothing. -/
theorem poolChoice_of_search {o : Option VoiceId}
    (search : (s.player p).ceiling ≤ (s.player p).held ∧ ownVictim s p = o ∨
      (s.player p).held < (s.player p).ceiling ∧ s.freeQueue = [] ∧ tierVictim s p = o) :
    poolChoice s p = .ofVictim o := by
  rcases search with ⟨full, found⟩ | ⟨below, empty, found⟩
  · rw [poolChoice, if_pos full, found]
  · rw [poolChoice, if_neg (Nat.not_le.2 below), empty, found]

theorem layerRequest_eq (p : Player) (note : Note) (l : LayerId) (s : State) :
    layerRequest p note l s =
      { (poolChoice s p).apply p note l s with players := (layerRequest p note l s).players } := rfl

/-- A steal that a search chose takes nothing from the note of the player that asks (R94). -/
theorem stealVoice_note_of_choice {note : Note} {l : LayerId} {v : VoiceId} (choice : poolChoice s p = .steal v) :
    ((stealVoice v p note.tag l s).player p).note = (s.player p).note := by
  cases use : (s.voice v).use with
  | none => rw [stealVoice_of_none v p note.tag l s use]
  | some u =>
    rw [stealVoice_note use, if_neg]
    rintro ⟨own, sounding⟩
    rcases poolChoice_steal choice with e | e | ⟨-, foreign⟩
    · simp [sounding] at e
    · simp [sounding] at e
    · exact foreign (by rw [Voice.owner, use, own]; rfl)

end

/-- The records that a list of denied items gives, queued one after another (R87). -/
theorem foldl_report_player {α : Type} (p : Player) (kind : EventKind) (tag : BitVec 8) (note : Nat) (flags : Byte)
    (value : α → Nat) (l : List α) (s : State) (q : Player) :
    (l.foldl (fun t a => report p kind tag note flags (value a) t) s).player q =
      if q = p then (s.player p).queuedAll (l.map fun a => recordOf s kind tag note flags (value a))
      else s.player q := by
  induction l generalizing s with
  | nil => split <;> simp_all
  | cons a l ih =>
    rw [List.foldl_cons, ih, List.map_cons, PlayerState.queuedAll_cons]
    split
    next => rw [report_player_self]; rfl
    next other => rw [report_player_other _ _ _ _ _ _ _ other]

theorem reportOnset_player (p : Player) (note : Note) (s : State) (q : Player) :
    (reportOnset p note s).player q =
      if q = p then (s.player p).queuedAll
        ([recordOf s .noteOn note.tag note.number note.flag.byte
            ((s.binding p).filter fun b => b.item ≠ .denied).length] ++
          ((s.binding p).filter fun b => b.item = .denied).map fun b =>
            recordOf s .voiceDenied note.tag note.number 0 b.layer.val)
      else s.player q := by
  have denied : (s.binding p).filter (fun b => !b.granted) = (s.binding p).filter fun b => b.item = .denied :=
    List.filter_congr fun b _ => by simp [Binding.granted]
  unfold reportOnset
  dsimp only
  rw [foldl_report_player p .voiceDenied note.tag note.number 0 (fun b : Binding => b.layer.val), denied]
  split
  next => rw [report_player_self, PlayerState.queuedAll_append]; rfl
  next other => rw [report_player_other _ _ _ _ _ _ _ other]

theorem reportOnset_eq (p : Player) (note : Note) (s : State) :
    reportOnset p note s = { s with players := (reportOnset p note s).players } := by
  have denials (l : List Binding) (t : State) :
      l.foldl (fun t b => report p .voiceDenied note.tag note.number 0 b.layer.val t) t =
        { t with players := (l.foldl (fun t b => report p .voiceDenied note.tag note.number 0 b.layer.val t) t).players } :=
    foldl_extends (fun a b : State => b = { a with players := b.players }) _ (fun _ => rfl)
      (fun h k => by rw [k, h]) l t fun _ _ _ => rfl
  unfold reportOnset
  dsimp only
  rw [denials]
  rfl

/-- Beyond its own items, a player's note goes unchanged through the requests of its onset. -/
theorem layerRequests_note {p : Player} {note n : Note} {s : State} (current : (s.player p).note = some n)
    (ls : List LayerId) : ∃ items, ((ls.foldl (fun t l => layerRequest p note l t) s).player p).note =
      some { n with binding := items } := by
  induction ls generalizing s n with
  | nil => exact ⟨n.binding, current⟩
  | cons l ls ih =>
    have kept := layerRequest_note_map p note l s (g := fun n => { n with binding := [] }) (fun _ _ => rfl) p
    rw [current, Option.map_some] at kept
    obtain ⟨m, requested, same⟩ := Option.map_eq_some_iff.1 kept
    obtain ⟨items, after⟩ := ih requested
    refine ⟨items, after.trans ?_⟩
    injection same with tag number flag setup
    rw [tag, number, flag, setup]

/-- Settles O20: each answer of the pool with its binding item, and the onset as its requests and records. -/
theorem layerRequestsGrantOrDeny : Obligations.LayerRequestsGrantOrDeny := by
  refine ⟨fun p note l v rest s n below queue current => ?_, fun p note l n s current search => ?_,
    fun p note l n v s current search => ?_, fun p n flag s => ?_⟩
  · have choice := poolChoice_of_free below queue
    have voice (w : VoiceId) := layerRequest_voice p note l s w
    have player (q : Player) := layerRequest_player p note l s q
    simp only [choice, Answer.apply, Answer.item, grantVoice_voice, grantVoice_player] at voice player
    refine ⟨?_, ?_, fun w other => ?_, ?_, fun q other => ?_⟩
    · rw [layerRequest_eq, choice]
      rfl
    · rw [voice, if_pos rfl]
    · rw [voice, if_neg other]
    · rw [player, if_pos rfl]
      simp [current]
    · rw [player, if_neg other, if_neg other]
  · have choice : poolChoice s p = .deny := poolChoice_of_search search
    have player (q : Player) := layerRequest_player p note l s q
    simp only [choice, Answer.apply, Answer.item, denyLayer_player] at player
    refine ⟨?_, ?_, fun q other => ?_⟩
    · rw [layerRequest_eq, choice]
      rfl
    · rw [player, if_pos rfl]
      simp only [if_true, PlayerState.placed_note, current, Option.map_some]
      unfold PlayerState.placed
      split <;> rfl
    · rw [player, if_neg other, if_neg other]
  · have choice : poolChoice s p = .steal v := poolChoice_of_search search
    have player (q : Player) := layerRequest_player p note l s q
    have note_kept := stealVoice_note_of_choice (note := note) (l := l) choice
    simp only [choice, Answer.apply, Answer.item] at player
    refine ⟨?_, ?_, fun q other => ?_⟩
    · rw [layerRequest_eq, choice]
      rfl
    · rw [player, if_pos rfl, note_kept, current]
      rfl
    · rw [player, if_neg other]
  · have began : (beginNote p (newNote s p n flag) s).player p =
        { s.player p with tagCounter := (newNote s p n flag).tag, note := some (newNote s p n flag) } :=
      State.player_modPlayer_self ..
    have layers := layerRequests_layerList p (newNote s p n flag) (enabledLayers (s.activeSetup p))
      (beginNote p (newNote s p n flag) s) p
    obtain ⟨items, current⟩ := layerRequests_note (note := newNote s p n flag) (congrArg PlayerState.note began)
      (enabledLayers (s.activeSetup p))
    rw [PlayerState.layerList, current, began, PlayerState.layerList] at layers
    have item_layers : items.map Binding.layer = enabledLayers (s.activeSetup p) := by
      simpa [newNote] using layers
    have count := congrArg List.length item_layers
    rw [List.length_map] at count
    have binding : State.binding ((enabledLayers (s.activeSetup p)).foldl
        (fun t l => layerRequest p (newNote s p n flag) l t) (beginNote p (newNote s p n flag) s)) p = items := by
      rw [State.binding, current]
    have counted : ((enabledLayers (s.activeSetup p)).foldl
        (fun t l => layerRequest p (newNote s p n flag) l t) (beginNote p (newNote s p n flag) s)).sampleCount =
        s.sampleCount := by rw [(SoundsOnly.layerRequests p _ _ _).1]; rfl
    refine ⟨items, current, item_layers, ?_, reportOnset_eq .., fun q other => ?_, ?_⟩
    · rw [count]
      exact List.length_filter_le _ _
    · exact (reportOnset_player ..).trans (if_neg other)
    · refine ((reportOnset_player ..).trans (if_pos rfl)).trans ?_
      rw [binding]
      simp only [recordOf, counted]
      rfl

end Sys2Proof.Machine


/-! Steals as the former owner sees them, the sample period, and the values of power-on. -/

namespace Sys2Proof.Machine

/-! ### Steals (R96, R97, R113) -/

section
variable {v : VoiceId} {p : Player} {tag : BitVec 8} {l : LayerId} {u : VoiceUse} {s : State}
  (use : (s.voice v).use = some u)
include use

/-- What every steal does: the voice fades for p with an open claim, and only the two players' records change. -/
theorem stealVoice_fades :
    stealVoice v p tag l s =
      { s with voices := (stealVoice v p tag l s).voices, players := (stealVoice v p tag l s).players } ∧
    (stealVoice v p tag l s).voice v =
      { s.voice v with
        state := .fading, use := some { u with owner := p }, target := 0,
        claim := some { player := p, tag := tag, layer := l }, endReported := false } ∧
    SameOtherVoices v s (stealVoice v p tag l s) ∧
    (u.owner ≠ p → (stealVoice v p tag l s).player p = { s.player p with held := (s.player p).held + 1 }) ∧
    ∀ r, r ≠ p → r ≠ u.owner → (stealVoice v p tag l s).player r = s.player r := by
  refine ⟨stealVoice_eq .., ?_, fun w other => ?_, fun foreign => ?_, fun r not_p not_owner => ?_⟩
  · rw [stealVoice_voice v v p tag l u s use, if_pos rfl]
  · rw [stealVoice_voice v w p tag l u s use, if_neg other]
  · rw [stealVoice_player v p tag l u s use, if_neg (Ne.symm foreign), seizeVoice_player]
    simp [Ne.symm foreign]
  · rw [stealVoice_player v p tag l u s use, if_neg not_owner, seizeVoice_player]
    simp [not_p, not_owner]

/-- The former owner's record: what held the voice lets it go, the held count moves, and the owner is told. -/
theorem stealVoice_owner :
    (stealVoice v p tag l s).player u.owner =
      PlayerState.told
        { (s.player u.owner).detached v (s.voice v).state with
          held := (s.player u.owner).held - 1 + if u.owner = p then 1 else 0 }
        s v u (droppedEntry v (s.voice v) (s.player u.owner)) := by
  rw [stealVoice_player v p tag l u s use, if_pos rfl, seizeVoice_player]
  simp only [if_true]

end

theorem droppedEntry_of_not_latched (v : VoiceId) {vo : Voice} (ps : PlayerState) (h : vo.state ≠ .latched) :
    droppedEntry v vo ps = none := if_neg h

/-- Settles O21. -/
theorem stealTakesSoundingVoice : Obligations.StealTakesSoundingVoice := by
  intro v p tag l u s use
  dsimp only
  intro victim
  obtain ⟨frame, voice, others, thief, rest⟩ := stealVoice_fades (p := p) (tag := tag) (l := l) use
  have owner := stealVoice_owner (p := p) (tag := tag) (l := l) use
  refine ⟨frame, voice, others, thief, fun sounding => ?_, fun releasing foreign => ?_, fun releasing own some_held => ?_,
    rest⟩
  · have foreign : u.owner ≠ p := by
      rcases victim with ⟨-, foreign⟩ | releasing
      · exact foreign
      · simp [sounding] at releasing
    rw [owner, droppedEntry_of_not_latched _ _ (by simp [sounding]), sounding, if_neg foreign, PlayerState.told]
    simp only [sounding]
    rfl
  · rw [owner, droppedEntry_of_not_latched _ _ (by simp [releasing]), releasing, if_neg foreign, PlayerState.told]
    simp only [releasing]
    rfl
  · rw [owner, droppedEntry_of_not_latched _ _ (by simp [releasing]), releasing, if_pos own, PlayerState.told,
      Nat.sub_add_cancel some_held]
    simp only [releasing]
    rfl

section
variable {v : VoiceId} {below above : List LatchEntry} {e : LatchEntry} (clear : ∀ x ∈ below, v ∉ x.voices)
  (here : v ∈ e.voices)
include clear here

/-- The stack loses a voice from the first entry that lists it, and the entry with its last voice (R113). -/
theorem shrinkStack_append :
    shrinkStack v (below ++ e :: above) =
      below ++ if e.voices.erase v = [] then above else { e with voices := e.voices.erase v } :: above := by
  induction below with
  | nil => rw [List.nil_append, shrinkStack, if_pos here, List.nil_append]
  | cons x below ih =>
    rw [List.cons_append, shrinkStack, if_neg (clear x (.head _)), ih fun y hy => clear y (.tail _ hy), List.cons_append]

theorem emptiedEntry_append :
    emptiedEntry v (below ++ e :: above) = if e.voices.erase v = [] then some e else none := by
  induction below with
  | nil => rw [List.nil_append, emptiedEntry, if_pos here]
  | cons x below ih =>
    rw [List.cons_append, emptiedEntry, if_neg (clear x (.head _)), ih fun y hy => clear y (.tail _ hy)]

end

/-- Settles O22. -/
theorem stealShrinksLatchEntry : Obligations.StealShrinksLatchEntry := by
  intro v p tag l u below e above s use latched stack here clear some_held
  dsimp only
  obtain ⟨frame, voice, others, thief, rest⟩ := stealVoice_fades (p := p) (tag := tag) (l := l) use
  have owner := stealVoice_owner (p := p) (tag := tag) (l := l) use
  have held : (s.player u.owner).held - 1 + (if u.owner = p then 1 else 0) =
      if u.owner = p then (s.player u.owner).held else (s.player u.owner).held - 1 := by
    split
    · exact Nat.sub_add_cancel some_held
    · rfl
  have dropped : droppedEntry v (s.voice v) (s.player u.owner) = if e.voices.erase v = [] then some e else none := by
    rw [droppedEntry, if_pos latched, stack, emptiedEntry_append clear here]
  rw [latched, held, dropped] at owner
  refine ⟨frame, voice, others, thief, rest, fun some_left => ?_, fun emptied => ?_⟩
  · rw [owner, if_neg some_left, PlayerState.told, latched, PlayerState.detached, stack, shrinkStack_append clear here,
      if_neg some_left]
    rfl
  · rw [owner, if_pos emptied, PlayerState.told, latched, PlayerState.detached, stack, shrinkStack_append clear here,
      if_pos emptied]
    exact congrArg (PlayerState.placed · _) (PlayerState.placed_queuedAll _ _ [_])

/-! ### The sample period (R131, R136, R139, R140, R145 to R148) -/

theorem State.voices_toList (s : State) : s.voices.toList = List.ofFn s.voice := by
  refine List.ext_getElem (by simp) fun i h h' => ?_
  rw [List.getElem_ofFn]
  rfl

/-- A bus sum is the sum over the voices. -/
theorem voices_sum (s : State) (part : Voice → Int) : (s.voices.toList.map part).sum = ∑ v, part (s.voice v) := by
  rw [s.voices_toList, List.map_ofFn, List.sum_ofFn]
  rfl

theorem scaledBuses_left (s : State) : (scaledBuses s)[0] = scaledSum s s.masterGain (leftPart s.waves) :=
  congrArg (scaled s.masterGain) (voices_sum s _)

theorem scaledBuses_right (s : State) : (scaledBuses s)[1] = scaledSum s s.masterGain (rightPart s.waves) :=
  congrArg (scaled s.masterGain) (voices_sum s _)

theorem scaledBuses_direct (s : State) (p : Fin 4) :
    (scaledBuses s)[2 + p.val] = scaledSum s s.directGains[p] (directPart s.waves p) := by
  have summed : (scaledBuses s)[2 + p.val] =
      scaled s.directGains[p] (s.voices.toList.map (directPart s.waves p)).sum := by
    fin_cases p <;> rfl
  rw [summed, voices_sum]
  rfl

theorem saturate_eq (x : Int) : saturate x = saturated x := by
  unfold saturate saturated clampInt
  split_ifs <;> omega

theorem clips_iff (x : Int) : clips x = true ↔ Overflows x := by
  simp only [clips, saturate_eq, decide_eq_true_eq, saturated, Overflows]
  omega

theorem stepToward_falls (down : Nat) {x goal : Nat} (falls : goal ≤ x) :
    stepToward 0 down x goal = max (x - down) goal := by
  unfold stepToward
  split_ifs <;> omega

/-- A rendered voice as the spec gives it, by its state. -/
theorem renderedAs_rendered {vo : Voice} (busy : vo.state ≠ .free) : RenderedAs vo vo.rendered := by
  have amplitude : vo.rendered.amplitude = steppedAmplitude vo := by rw [Voice.rendered, if_neg busy]
  refine ⟨?_, fun state rises => ?_, fun state falls => ?_, fun state falls => ?_, fun state falls => ?_, fun rests => ?_⟩
  · rw [amplitude, Voice.rendered, if_neg busy]
    rfl
  · rw [amplitude, steppedAmplitude, state]
    exact if_pos rises
  · rw [amplitude, steppedAmplitude, state]
    exact (if_neg (Nat.not_lt.2 falls.le)).trans (if_pos falls)
  · rw [amplitude, steppedAmplitude, state]
    exact stepToward_falls _ falls
  · rw [amplitude, steppedAmplitude, state]
    exact stepToward_falls _ falls
  · rw [amplitude, steppedAmplitude]
    rcases rests with latched | level
    · rw [latched]
    · have stays (up down : Nat) : stepToward up down vo.amplitude vo.target = vo.amplitude := by
        rw [stepToward, level, if_neg (lt_irrefl _), if_neg (lt_irrefl _)]
      cases vo.state with
      | sounding | releasing | fading => exact stays ..
      | latched | free => rfl

/-- Settles O13. -/
theorem samplePeriodRenders : Obligations.SamplePeriodRenders := by
  intro s
  refine ⟨_, exec_of_effect (a := renderPeriod s) rfl, settleLine_eq .., fun v free => ?_, fun v busy => ?_, ?_, ?_, fun p => ?_, ?_, ?_,
    fun i => ?_, rfl, rfl, fun p => ?_⟩
  · rw [settleLine_voice, renderPeriod_voice, Voice.rendered, if_pos free]
  · rw [settleLine_voice, renderPeriod_voice]
    exact renderedAs_rendered busy
  · rw [← scaledBuses_left, ← saturate_eq]
    exact mapVector_getElem ..
  · rw [← scaledBuses_right, ← saturate_eq]
    exact mapVector_getElem ..
  · rw [← scaledBuses_direct, ← saturate_eq]
    exact mapVector_getElem ..
  · rw [← scaledBuses_left, ← scaledBuses_right, ← clips_iff, ← clips_iff, ← or_assoc, ← Bool.or_eq_true,
      ← Bool.or_eq_true]
    rfl
  · have direct : (∃ p : Player, Overflows (scaledSum s s.directGains[p] (directPart s.waves p))) ↔
        ∃ p : Fin 4, clips (scaledBuses s)[2 + p.val] = true :=
      exists_congr fun p => by rw [clips_iff, scaledBuses_direct]
    rw [direct]
    have flag : (settleLine s (renderPeriod s)).clipDirect = (s.clipDirect || clips (scaledBuses s)[2] ||
      clips (scaledBuses s)[3] || clips (scaledBuses s)[4] || clips (scaledBuses s)[5]) := rfl
    rw [flag]
    simp [Fin.exists_fin_succ, or_assoc]
  · fin_cases i <;> exact congrArg (BitVec.ofInt 32) (Int.mul_comm ..)
  · rw [settleLine_player, renderPeriod_player]
    rfl

end Sys2Proof.Machine


/-! Power-on and soft reset, and what a byte written to the desk port leaves beside its effect. -/

namespace Sys2Proof.Machine

/-! ### Power-on (the power-on columns) -/

theorem sineQuarter_bounds : ∀ x ∈ sineQuarter, 0 ≤ x ∧ x ≤ 32767 := by decide

theorem sineQuarter_getD_bounds (j : Nat) : 0 ≤ sineQuarter.getD j 0 ∧ sineQuarter.getD j 0 ≤ 32767 := by
  rw [List.getD_eq_getElem?_getD]
  cases found : sineQuarter[j]? with
  | none => decide
  | some x => exact sineQuarter_bounds x (List.mem_of_getElem? found)

theorem sineEntry_bounds (j : Nat) : -32768 ≤ sineEntry j ∧ sineEntry j ≤ 32767 := by
  have bounds := sineQuarter_getD_bounds
  unfold sineEntry
  split_ifs
  · have := bounds j; omega
  · have := bounds (128 - j); omega
  · have := bounds (j - 128); omega
  · have := bounds (256 - j); omega

/-- A half word is its high byte before its low one. -/
theorem append_bytes (x : Half) : x.extractLsb' 8 8 ++ x.extractLsb' 0 8 = x := by
  refine BitVec.eq_of_getLsbD_eq fun i hi => ?_
  rw [BitVec.getLsbD_append]
  by_cases low : i < 8
  · simp [low]
  · simp [low, show 8 + (i - 8) = i by omega]
    omega

theorem toInt_ofInt_half {x : Int} (lower : -32768 ≤ x) (upper : x ≤ 32767) : (BitVec.ofInt 16 x).toInt = x := by
  rw [BitVec.toInt_ofInt]
  exact Int.bmod_eq_of_le (by simpa using lower) (by simp; omega)

/-- The two bytes of a sine entry in W0 at power-on (R142). -/
theorem powerOn_sine {a j : Nat} (address : a = 0x2000 + 2 * j) (small : j < 256) :
    Memory.powerOn a = (BitVec.ofInt 16 (sineEntry j)).extractLsb' 0 8 ∧
    Memory.powerOn (a + 1) = (BitVec.ofInt 16 (sineEntry j)).extractLsb' 8 8 := by
  have low : (a - 0x2000) / 2 = j := by omega
  have high : (a + 1 - 0x2000) / 2 = j := by
    rw [Nat.sub_eq_of_eq_add (c := 2 * j + 1) (by rw [address]; ring)]
    omega
  constructor
  · rw [Memory.powerOn, if_pos (by omega), low, if_pos (by omega)]
  · rw [Memory.powerOn, if_pos (by omega), high, if_neg (by omega)]

/-- The wave store at power-on is the sine in W0 and nothing else (R142). -/
theorem waveEntry_powerOn (n : WaveId) (j : Nat) :
    waveEntry [] n j = if n = 0 ∧ j < 256 then sineEntry j else 0 := by
  change (Memory.powerOn (waveAddress n j + 1) ++ Memory.powerOn (waveAddress n j)).toInt = _
  split
  next here =>
    obtain ⟨rfl, small⟩ := here
    obtain ⟨low, high⟩ := powerOn_sine (a := waveAddress 0 j) (by simp [waveAddress]) small
    obtain ⟨lower, upper⟩ := sineEntry_bounds j
    rw [low, high, append_bytes, toInt_ofInt_half lower upper]
  next elsewhere =>
    have beyond : 0x2200 ≤ waveAddress n j := by
      by_contra below
      rw [waveAddress] at below
      have first : n.val = 0 := by omega
      exact elsewhere ⟨Fin.ext first, by omega⟩
    rw [Memory.powerOn, Memory.powerOn, if_neg (by omega), if_neg (by omega)]
    rfl

theorem linearCurve_point : ∀ i : Fin Config.numPoints,
    linearCurve[i] = if i.val = 16 then 1023 else 64 * i.val := by decide

theorem powerOnCharts_blank : ∀ n : ChartSlot, n ≠ 0 → powerOnCharts[n] = blankChart := by decide

theorem voiceCleared_resetVoice : VoiceCleared resetVoice :=
  ⟨rfl, rfl, rfl, rfl, ⟨rfl, rfl⟩, rfl, rfl, rfl, ⟨rfl, rfl⟩, rfl, rfl⟩

theorem playerPoweredOn_reset : PlayerPoweredOn PlayerState.reset := by constructor <;> decide

theorem State.reset_entry_blank (n : ChartSlot) (e : EntryId) (other : n ≠ 0) : State.reset.entry n e = blankEntry := by
  change powerOnCharts[n][e] = blankEntry
  rw [powerOnCharts_blank n other]
  simp [blankChart]

theorem powerOnFacts_reset : PowerOnFacts State.reset where
  voices v := by rw [State.reset_voice]; exact voiceCleared_resetVoice
  freeQueue := rfl
  counters := ⟨rfl, rfl⟩
  players p := by rw [State.reset_player]; exact playerPoweredOn_reset
  curves c i := by
    have curve : State.reset.curves[c] = linearCurve := by simp [State.reset]
    rw [curve, linearCurve_point]
  setups n := by simp [State.reset, State.setup]
  image e := rfl
  blank n e other := State.reset_entry_blank n e other
  waves := waveEntry_powerOn
  tuning := ⟨rfl, rfl, fun p => by simp [State.reset]⟩
  clips := ⟨rfl, rfl⟩
  line := ⟨rfl, rfl, rfl, rfl, rfl⟩
  slots i := by simp [State.reset]
  port := rfl

theorem globalStatus_of_clear {s : State} (main : s.clipMain = false) (direct : s.clipDirect = false) :
    s.globalStatus = 0 := by
  rw [State.globalStatus, main, direct]
  rfl

section
variable {t : State} (sticky : ∀ p, (t.player p).statusA = 0) (live : ∀ p, (t.player p).statusB = 0)
  (global : t.globalStatus = 0)
include sticky live global

theorem not_flagUnmasked_of_clear : ¬FlagUnmasked t := by
  simp [FlagUnmasked, sticky, live, global]

theorem not_flagRises_of_clear (s : State) : ¬FlagRises s t := by
  simp [FlagRises, sticky, live, global]

end

/-- After reset no flag is set and the line is inactive, so settling the line of a POWER_ON changes nothing (R182). -/
theorem settleLine_reset (s : State) (pending : List Instr) :
    settleLine s { State.reset with pending := pending } = { State.reset with pending := pending } := by
  have player (p : Player) : ({ State.reset with pending := pending } : State).player p = PlayerState.reset :=
    State.reset_player p
  have silent : ({ State.reset with pending := pending } : State).unmasked = false := by
    rw [← Bool.not_eq_true, State.unmasked_iff]
    exact not_flagUnmasked_of_clear (fun p => by rw [player]; rfl) (fun p => by rw [player]; rfl)
      (globalStatus_of_clear rfl rfl)
  change { State.reset with
    pending := pending, pulse := false, irqHigh := !State.unmasked { State.reset with pending := pending } } = _
  rw [silent]
  rfl

/-- Settles O4. -/
theorem powerOnValues : Obligations.PowerOnValues :=
  ⟨powerOnFacts_reset, fun s => (exec_of_effect rfl).trans (congrArg _ (settleLine_reset s s.pending))⟩

/-! ### A byte written to the desk port (R169, R170) -/

/-- A command that writes a byte where the port stands has the byte's effect, and the port moves on. -/
theorem exec_deskWrite {c : Instr} {s : State} {a : Half} {eff : State → State}
    (written : effect c s = deskWriteByte a eff s) (stands : Stands s .write a) (txn : (eff s).txn = s.txn)
    (miso : (eff s).miso = s.miso) :
    ∃ t, exec c s = .next t ∧ PortMoved s t 0 id ∧
      t = settleLine s { eff s with txn := t.txn, miso := t.miso } := by
  obtain ⟨frame, moved⟩ := deskWriteByte_plain stands eff txn miso
  refine ⟨_, exec_of_effect written, moved, ?_⟩
  rw [settleLine_txn, settleLine_miso, ← frame]

/-! ### SOFT_RESET (R105, R174) -/

theorem PlayerState.softReset_statusB (ps : PlayerState) : ps.softReset.statusB = 0 := by
  simp [PlayerState.softReset, PlayerState.reset, PlayerState.statusB, PlayerState.evqLevel, PlayerState.evqFull,
    flagBit, eventQueueSize]

/-- Settles O5: with every flag clear no line is active, and none rises. -/
theorem softResetClears : Obligations.SoftResetClears := by
  intro arg s stands
  obtain ⟨t, run, moved, settled⟩ := exec_deskWrite (c := .softReset arg) (eff := softResetAll) rfl stands rfl rfl
  have player (p : Player) : t.player p = (s.player p).softReset := by
    rw [settled]
    exact softResetAll_player s p
  have sticky (p : Player) : (t.player p).statusA = 0 := by rw [player]; rfl
  have live (p : Player) : (t.player p).statusB = 0 := by rw [player, PlayerState.softReset_statusB]
  have global : t.globalStatus = 0 := by rw [settled]; exact globalStatus_of_clear rfl rfl
  refine ⟨t, run, ?_, fun v => ?_, player, fun p => ⟨sticky p, live p⟩, fun n e => ?_, moved, fun level active => ?_,
    fun edge => ?_⟩
  · rw [settled]
    rfl
  · rw [settled]
    exact (softResetAll_voice s v).symm ▸ voiceCleared_resetVoice
  · rw [settled]
    exact softResetAll_entry s n e
  · have mode : t.intMode = .level := by rw [settled]; exact level
    rw [LineActive, mode] at active
    exact not_flagUnmasked_of_clear sticky live global active
  · have mode : t.intMode = .edge := by rw [settled]; exact edge
    have follows : LineFollows s t := by
      rw [settled]
      exact lineFollows_settleLine (.inl rfl)
    have rises := not_flagRises_of_clear sticky live global s
    have pulse := follows.2.2 mode
    rw [Bool.eq_iff_iff, pulse]
    simp [rises]

end Sys2Proof.Machine


/-! The receiver, the reply slot, HELLO and LEARN_REQ frames and the end of a learn at its deadline. -/

namespace Sys2Proof.Machine

/-! ### Commands that rewrite one player's record -/

theorem exec_modPlayer {c : Instr} {s : State} {p : Player} {f : PlayerState → PlayerState}
    (h : effect c s = s.modPlayer p f) :
    ∃ t, exec c s = .next t ∧ t = { s with players := t.players, pulse := t.pulse, irqHigh := t.irqHigh } ∧
      SameOthers p s t ∧ t.player p = f (s.player p) :=
  ⟨_, exec_of_effect h, settleLine_eq .., fun _ other => State.player_modPlayer_other s other f,
    State.player_modPlayer_self s p f⟩

theorem exec_modPlayer_others {c : Instr} {s : State} {p : Player} {f : PlayerState → PlayerState}
    (h : effect c s = s.modPlayer p f) :
    ∃ t, exec c s = .next t ∧ SameOthers p s t ∧
      t = { s with players := t.players, pulse := t.pulse, irqHigh := t.irqHigh } ∧ t.player p = f (s.player p) := by
  obtain ⟨t, run, frame, others, player⟩ := exec_modPlayer h
  exact ⟨t, run, others, frame, player⟩

theorem report_eq_modPlayer (p : Player) (kind : EventKind) (tag : BitVec 8) (note : Nat) (flags : Byte) (value : Nat)
    (s : State) : report p kind tag note flags value s =
      s.modPlayer p fun ps => ps.queued (recordOf s kind tag note flags value) := rfl

theorem placeReply_eq_modPlayer (p : Player) (r : Reply) (s : State) :
    placeReply p r s = s.modPlayer p fun ps => ps.placed r := rfl

/-! ### The reply slot (R163, R164) -/

/-- Settles O40. -/
theorem replySlotEnds : Obligations.ReplySlotEnds := by
  refine fun p s => ⟨fun x sending => ?_, fun q opened => ?_, fun x sending => ?_⟩
  · exact exec_modPlayer (f := fun ps => { ps with slot := .idle }) (by simp [effect, sendDone, sending])
  · exact exec_modPlayer (f := fun ps => { ps with slot := .idle }) (by simp [effect, closeSlot, opened])
  · refine exec_modPlayer (f := fun ps => { ps with slot := .idle, statusA := ps.statusA ||| collisionFlag }) ?_
    simp only [effect, collide, sending]
    exact State.modPlayer_modPlayer ..

theorem replyHeader_toNat : ∀ (kind : BitVec 2) (seq : BitVec 4),
    ((1 : BitVec 1) ++ kind ++ (0 : BitVec 1) ++ seq : Byte).toNat = 128 + 32 * kind.toNat + seq.toNat := by decide

/-- The six characters built for a reply are a reply frame of its contents (R165, R184). -/
theorem replyFrame_replyChars (kind : BitVec 2) (seq : BitVec 4) (note tuning flags value : Nat) :
    ReplyFrame kind.toNat seq note tuning flags value (replyChars kind seq note tuning flags value) := by
  refine ⟨_, _, _, _, _, _, rfl, replyHeader_toNat kind seq, rfl, rfl, rfl, rfl, ?_⟩
  rw [BitVec.toNat_ofNat, checkSum, Nat.mod_eq_of_lt (by omega)]
  simp only [List.map_cons, List.map_nil, List.sum_cons, List.sum_nil]
  omega

theorem replyFrame_chars (r : Reply) (seq : BitVec 4) :
    ReplyFrame r.fields.1 seq r.fields.2.1 r.fields.2.2.1 r.fields.2.2.2.1 r.fields.2.2.2.2 (r.chars seq) := by
  cases r with
  | denied | taken => exact replyFrame_replyChars 1 ..
  | latchDropped => exact replyFrame_replyChars 1 ..
  | learnResult => exact replyFrame_replyChars 2 ..

/-- The indicator's code is that of the offset to the nearest note (R166). -/
theorem indicates_indicatorOf (sum : Int) : Indicates (indicatorOf sum) sum := by
  have parts := Int.emod_add_mul_ediv sum 100
  have low := Int.emod_nonneg sum (b := 100) (by decide)
  have high := Int.emod_lt_of_pos sum (b := 100) (by decide)
  by_cases up : 50 ≤ sum % 100
  · have offset : sum - 100 * (sum / 100 + 1) = sum % 100 - 100 := by omega
    refine ⟨sum / 100 + 1, by omega, by omega, ?_⟩
    rw [offset]
    simp only [indicatorOf, if_pos up]
  · have offset : sum - 100 * (sum / 100) = sum % 100 := by omega
    refine ⟨sum / 100, by omega, by omega, ?_⟩
    rw [offset]
    simp only [indicatorOf, if_neg up]

/-- Settles O39. -/
theorem replySendStartSendsTheHead : Obligations.ReplySendStartSendsTheHead := by
  intro p seq s opened
  cases queue : (s.player p).replies with
  | nil =>
    obtain ⟨t, run, frame, others, player⟩ := exec_modPlayer (c := .replySendStart p) (s := s) (p := p)
      (f := fun ps => { ps with slot := .sending (statusChars s p seq) }) (by simp [effect, sendStart, opened, queue])
    refine ⟨t, statusChars s p seq, run, frame, others, ?_, by simp, fun _ => ⟨tuningIndicator s p, fun n current => ?_, fun silent => ?_,
      ?_⟩⟩
    · rw [player, List.tail_nil, ← queue]
    · rw [tuningIndicator, current]
      exact indicates_indicatorOf _
    · rw [tuningIndicator, silent]
    · have note : (match (s.player p).note with | none => 127 | some n => n.number) =
          ((s.player p).note.map Note.number).getD 127 := by cases (s.player p).note <;> rfl
      have silence : 4 * (if (s.player p).note.isSome then 0 else 1) = if (s.player p).note = none then 4 else 0 := by
        cases (s.player p).note <;> simp
      have learn : 8 * (if (s.player p).learn.isSome then 1 else 0) = if (s.player p).learn = none then 0 else 8 := by
        cases (s.player p).learn <;> simp
      rw [← silence, ← learn, ← note]
      exact replyFrame_replyChars 0 ..
  | cons r rs =>
    obtain ⟨t, run, frame, others, player⟩ := exec_modPlayer (c := .replySendStart p) (s := s) (p := p)
      (f := fun ps => { ps with slot := .sending (r.chars seq), replies := rs })
      (by simp [effect, sendStart, opened, queue])
    refine ⟨t, r.chars seq, run, frame, others, player, fun r' head => ?_, by simp⟩
    obtain rfl : r = r' := by simpa using head
    exact replyFrame_chars r seq

/-! ### Characters and frames (R151 to R153) -/

/-- A player's record once a complete frame has been checked. -/
def PlayerState.frameChecked (chars : List Byte) (ps : PlayerState) : PlayerState :=
  if checkSum (chars.take 9) ≠ (chars.getD 9 0).toNat then { ps with statusA := ps.statusA ||| checkErr }
  else
    match kindOf (chars.getD 0 0) with
    | none => { ps with statusA := ps.statusA ||| formatErr }
    | some k => { ps with received := some { kind := k, body := bodyOf chars } }

/-- A player's record once frame assembly has taken a good character. -/
def PlayerState.assembled (c : Byte) (ps : PlayerState) : PlayerState :=
  if isHeader c then
    if ps.assembly = [] then { ps with assembly := [c] }
    else { ps with assembly := [c], statusA := ps.statusA ||| formatErr }
  else if ps.assembly = [] then { ps with statusA := ps.statusA ||| formatErr }
  else if ps.assembly.length + 1 = 10 then ({ ps with assembly := [] }).frameChecked (ps.assembly ++ [c])
  else { ps with assembly := ps.assembly ++ [c] }

theorem completeFrame_eq (p : Player) (chars : List Byte) (s : State) :
    completeFrame p chars s = s.modPlayer p (PlayerState.frameChecked chars) := by
  unfold completeFrame PlayerState.frameChecked
  split
  · rfl
  · cases kindOf (chars.getD 0 0) <;> rfl

theorem assemble_eq (p : Player) (c : Byte) (s : State) : assemble p c s = s.modPlayer p (PlayerState.assembled c) := by
  have here : s.modPlayer p (PlayerState.assembled c) = s.modPlayer p fun _ => (s.player p).assembled c :=
    State.modPlayer_congr rfl
  rw [here]
  unfold assemble PlayerState.assembled
  dsimp only
  split
  · split
    · exact State.modPlayer_congr rfl
    · exact (State.modPlayer_modPlayer ..).trans (State.modPlayer_congr rfl)
  · split
    · exact State.modPlayer_congr rfl
    · split
      · rw [completeFrame_eq]
        exact (State.modPlayer_modPlayer ..).trans (State.modPlayer_congr rfl)
      · exact State.modPlayer_congr rfl

theorem not_sending_iff (slot : ReplySlot) : slot.isSending = false ↔ ∀ x, slot ≠ .sending x := by
  cases slot <;> simp [ReplySlot.isSending]

theorem isHeader_eq_msb (c : Byte) : isHeader c = c.msb := by
  rw [BitVec.msb_eq_getLsbD_last]
  rfl

section
variable {p : Player} {rx : Reception} {s : State}

theorem takeCharacter_of_deaf (c : Byte)
    (deaf : ¬((s.player p).enabled = true ∧ ∀ x, (s.player p).slot ≠ .sending x)) : takeCharacter p c rx s = s := by
  rw [takeCharacter, if_pos]
  rw [← not_sending_iff] at deaf
  cases enabled : (s.player p).enabled <;> cases sending : (s.player p).slot.isSending <;> simp_all

variable (heard : (s.player p).enabled = true ∧ ∀ x, (s.player p).slot ≠ .sending x)
include heard

theorem takeCharacter_of_late (c : Byte) (late : rx.early = true ∧ (s.player p).restarted = true) :
    takeCharacter p c rx s = s.modPlayer p fun ps => { ps with restarted := false } := by
  rw [takeCharacter, if_neg (by simp [heard.1, (not_sending_iff _).2 heard.2]), if_pos (by simp [late])]
  rfl

theorem takeCharacter_of_taken (c : Byte) (taken : ¬(rx.early = true ∧ (s.player p).restarted = true)) :
    takeCharacter p c rx s = s.modPlayer p fun ps =>
      if rx.stopOk then ({ ps with restarted := false }).assembled c
      else { ps with restarted := false, assembly := [], statusA := ps.statusA ||| charErr } := by
  rw [takeCharacter, if_neg (by simp [heard.1, (not_sending_iff _).2 heard.2]), if_neg (by simpa using taken)]
  cases rx.stopOk with
  | true =>
    rw [if_pos rfl, assemble_eq]
    exact State.modPlayer_modPlayer ..
  | false =>
    rw [if_neg (by simp), raiseFlag, setAssembly, endReception, State.modPlayer_modPlayer, State.modPlayer_modPlayer]
    rfl

end

section
variable {c : Byte} {ps : PlayerState}

theorem PlayerState.assembled_header (header : c.msb = true) : ps.assembled c =
    if ps.assembly = [] then { ps with assembly := [c] }
    else { ps with assembly := [c], statusA := ps.statusA ||| 0x04 } := by
  rw [PlayerState.assembled, isHeader_eq_msb, if_pos header]
  rfl

theorem PlayerState.assembled_data (data : c.msb = false) : ps.assembled c =
    if ps.assembly = [] then { ps with statusA := ps.statusA ||| 0x04 }
    else if ps.assembly.length + 1 = 10 then ({ ps with assembly := [] }).frameChecked (ps.assembly ++ [c])
    else { ps with assembly := ps.assembly ++ [c] } := by
  rw [PlayerState.assembled, isHeader_eq_msb, if_neg (by simp [data])]
  rfl

end

theorem kind_field_iff : ∀ (header : Byte) (k : BitVec 3), header.extractLsb' 4 3 = k ↔ header.toNat / 16 % 8 = k.toNat := by
  intro header k
  rw [← BitVec.toNat_inj, BitVec.extractLsb'_toNat, Nat.shiftRight_eq_div_pow]

/-- The kind that a header names, by the number in its bits 6 to 4 (R153, R183). -/
theorem kindOf_eq (header : Byte) : kindOf header =
    if header.toNat / 16 % 8 = 0 then some .sense
    else if header.toNat / 16 % 8 = 1 then some .hello
    else if header.toNat / 16 % 8 = 2 then some .learnReq
    else none := by
  simp only [kindOf, kind_field_iff]
  rfl

/-- What nine characters and a tenth come to (R153). -/
theorem PlayerState.frameChecked_ten {a : List Byte} (nine : a.length = 9) (c : Byte) (ps : PlayerState) :
    ps.frameChecked (a ++ [c]) =
      if (a.map BitVec.toNat).sum % 128 ≠ c.toNat then { ps with statusA := ps.statusA ||| 0x02 }
      else
        match kindOf (a.getD 0 0) with
        | none => { ps with statusA := ps.statusA ||| 0x04 }
        | some k => { ps with received := some { kind := k, body := bodyFrom a } } := by
  have char (i : Nat) (h : i < 9) : (a ++ [c]).getD i 0 = a.getD i 0 := by
    simp [List.getD_eq_getElem?_getD, List.getElem?_append_left (by omega : i < a.length)]
  have last : (a ++ [c]).getD 9 0 = c := by simp [List.getD_eq_getElem?_getD, nine]
  have body : bodyOf (a ++ [c]) = bodyFrom a := by
    have bits (n : Nat) (x : Byte) : x.extractLsb' 0 n = x.setWidth n :=
      BitVec.eq_of_toNat_eq (by simp [BitVec.extractLsb'_toNat])
    simp only [bodyOf, bodyFrom, dataBits, bits, char 0 (by omega), char 1 (by omega), char 2 (by omega), char 3 (by omega),
      char 4 (by omega), char 5 (by omega), char 6 (by omega), char 7 (by omega), char 8 (by omega)]
  rw [PlayerState.frameChecked, checkSum, List.take_left' nine, last, char 0 (by omega), body]
  rfl

/-- Settles O38, by what becomes of a character. -/
theorem charactersAssembleAndCheckFrames : Obligations.CharactersAssembleAndCheckFrames := by
  refine ⟨fun p c rx s => ?_, fun p c rx s enabled silent good timely data nine => ?_⟩
  · by_cases heard : (s.player p).enabled = true ∧ ∀ x, (s.player p).slot ≠ .sending x
    · by_cases late : rx.early = true ∧ (s.player p).restarted = true
      · obtain ⟨t, run, frame, others, player⟩ :=
          exec_modPlayer (c := .character p c rx) (takeCharacter_of_late heard c late)
        exact ⟨t, run, frame, others, (absurd heard ·), fun _ _ => player, fun taken => absurd late taken.2,
          fun taken => absurd late taken.2, fun taken => absurd late taken.2, fun taken => absurd late taken.2,
          fun taken => absurd late taken.2⟩
      · obtain ⟨t, run, frame, others, player⟩ :=
          exec_modPlayer (c := .character p c rx) (takeCharacter_of_taken heard c late)
        refine ⟨t, run, frame, others, ?_⟩
        refine ⟨(absurd heard ·), fun _ => (absurd · late), fun _ bad => ?_, fun _ good header empty => ?_,
          fun _ good header more => ?_, fun _ good data empty => ?_, fun _ good data more short => ?_⟩
        · rw [player, bad]; rfl
        · rw [player, if_pos good, PlayerState.assembled_header header, if_pos empty]
        · rw [player, if_pos good, PlayerState.assembled_header header, if_neg more]
        · rw [player, if_pos good, PlayerState.assembled_data data, if_pos empty]
        · rw [player, if_pos good, PlayerState.assembled_data data, if_neg more,
            if_neg (Nat.ne_of_lt (Nat.succ_lt_succ short))]
    · obtain ⟨t, run, frame, others, player⟩ := exec_modPlayer (c := .character p c rx) (s := s) (p := p) (f := id)
        ((takeCharacter_of_deaf c heard).trans (State.modPlayer_id s p).symm)
      exact ⟨t, run, frame, others, fun _ => player, (absurd · heard), fun taken => absurd taken.1 heard,
        fun taken => absurd taken.1 heard, fun taken => absurd taken.1 heard, fun taken => absurd taken.1 heard,
        fun taken => absurd taken.1 heard⟩
  · obtain ⟨t, run, frame, others, player⟩ :=
      exec_modPlayer (c := .character p c rx) (takeCharacter_of_taken ⟨enabled, silent⟩ c timely)
    have some : (s.player p).assembly ≠ [] := by
      intro none
      simp [none] at nine
    rw [if_pos good, PlayerState.assembled_data data, if_neg some, if_pos (congrArg (· + 1) nine),
      PlayerState.frameChecked_ten nine, kindOf_eq] at player
    refine ⟨t, run, frame, others, ?_⟩
    dsimp only at player ⊢
    refine ⟨fun wrong => ?_, fun right unknown => ?_, fun right kind => ?_, fun right kind => ?_,
      fun right kind => ?_⟩
    · rw [player, if_pos wrong]
    · rw [player, if_neg (by simpa using right), if_neg (by omega), if_neg (by omega), if_neg (by omega)]
    · rw [player, if_neg (by simpa using right), if_pos kind]
    · rw [player, if_neg (by simpa using right), if_neg (by omega), if_pos kind]
    · rw [player, if_neg (by simpa using right), if_neg (by omega), if_neg (by omega), if_pos kind]

end Sys2Proof.Machine


/-! HELLO and LEARN_REQ frames, learns that end, and links that leave UP. -/

namespace Sys2Proof.Machine

/-! ### Frames taken (R155 to R157) -/

theorem takeFrame_of_stands {p : Player} {fr : Frame} {s : State} (stands : frameStands s p fr = true)
    (take : State → State) : takeFrame p fr take s = take (clearReceived p s) := if_pos stands

theorem clearReceived_player (p : Player) (s : State) :
    (clearReceived p s).player p = { s.player p with received := none } := State.player_modPlayer_self ..

/-- Settles O24. -/
theorem framesDiscardedWhileDown : Obligations.FramesDiscardedWhileDown := by
  refine fun p f s down => ⟨fun stands => ?_, fun stands => ?_⟩
  · have taken : effect (.senseFrame p f) s = clearReceived p s := by
      refine (takeFrame_of_stands stands _).trans ?_
      simp only [takeSense, clearReceived_player, down]
    obtain ⟨t, run, frame, others, player⟩ := exec_modPlayer taken
    exact ⟨t, run, frame, player, others⟩
  · have taken : effect (.learnReq p f) s = clearReceived p s := by
      refine (takeFrame_of_stands stands _).trans ?_
      simp only [takeLearnReq, clearReceived_player, down]
    obtain ⟨t, run, frame, others, player⟩ := exec_modPlayer taken
    exact ⟨t, run, frame, player, others⟩

/-- A HELLO of an UP link rewrites the player's record. -/
theorem takeHello_of_up {p : Player} {s : State} (up : (s.player p).link = .up) (f : FrameBody) :
    takeHello p f (clearReceived p s) = s.modPlayer p fun ps =>
      { ps with
        received := none, keyCount := min f.c1.toNat 24, seqRef := some f.seq, statusA := statusAfterSeq ps f.seq } := by
  simp only [takeHello, clearReceived_player, up]
  rw [checkSequence_clearReceived up]
  exact State.modPlayer_modPlayer ..

/-- A HELLO brings a DOWN or LOST link UP. -/
theorem takeHello_of_not_up {p : Player} {s : State} (not_up : (s.player p).link ≠ .up) (f : FrameBody) :
    takeHello p f (clearReceived p s) = s.modPlayer p fun ps =>
      PlayerState.queued
        { ps with
          received := none, keyCount := min f.c1.toNat 24, link := .up, silence := some 0, seqRef := some f.seq }
        (recordOf s .linkUp 0 (min f.c1.toNat 24) 0 1) := by
  have brought : takeHello p f (clearReceived p s) = bringUp p 1 f.seq (takeKeyCount p f.c1 (clearReceived p s)) := by
    unfold takeHello
    rw [clearReceived_player]
    cases link : (s.player p).link with
    | up => exact absurd link not_up
    | down | lost => rfl
  have count : ((takeKeyCount p f.c1 (clearReceived p s)).player p).keyCount = min f.c1.toNat 24 := by
    rw [takeKeyCount, State.player_modPlayer_self]
  rw [brought, bringUp, count, report_eq_modPlayer, takeKeyCount, clearReceived]
  simp only [State.modPlayer_modPlayer]
  rfl

/-- Settles O32. -/
theorem helloTakesTheKeyCount : Obligations.HelloTakesTheKeyCount := by
  intro p f s stands
  have taken : effect (.hello p f) s = takeHello p f (clearReceived p s) := takeFrame_of_stands stands _
  by_cases up : (s.player p).link = .up
  · obtain ⟨t, run, frame, others, player⟩ := exec_modPlayer (taken.trans (takeHello_of_up up f))
    exact ⟨t, run, frame, others, fun _ => player, (absurd up ·)⟩
  · obtain ⟨t, run, frame, others, player⟩ := exec_modPlayer (taken.trans (takeHello_of_not_up up f))
    exact ⟨t, run, frame, others, (absurd · up), fun _ => player⟩

/-! ### Learn requests (R52, R53) -/

section
variable {p : Player} {index biased : BitVec 7} {s : State}

theorem requestLearn_of_refused (refused : (s.player p).learn ≠ none ∨ 64 ≤ index.toNat) :
    requestLearn p index biased s = refuseLearn p .refused index s := by
  unfold requestLearn
  dsimp only
  split_ifs with pending wide
  · rfl
  · rfl
  · rcases refused with pending' | wide'
    · exact absurd (Option.isSome_iff_ne_none.2 pending') pending
    · exact absurd wide' wide

theorem requestLearn_of_idle {e : EntryId} (idle : (s.player p).learn = none) (named : e.val = index.toNat) :
    requestLearn p index biased s =
      if ∃ q, q ≠ p ∧ (s.entry (s.activeSetup p).chartSlot e).reservation = some q then refuseLearn p .busy index s
      else acceptLearn p (s.activeSetup p).chartSlot e biased s := by
  have small : index.toNat < 64 := named ▸ e.isLt
  have entry : (Fin.ofNat Config.numEntries index.toNat : EntryId) = e := Fin.ext (by
    rw [Fin.val_ofNat, ← named]
    exact Nat.mod_eq_of_lt e.isLt)
  unfold requestLearn
  dsimp only
  rw [if_neg (by simp [idle]), if_neg (by omega), entry]
  cases (s.entry (s.activeSetup p).chartSlot e).reservation with
  | none => simp
  | some q => by_cases own : q = p <;> simp [own]

theorem requestLearn_eq (p : Player) (index biased : BitVec 7) (s : State) :
    requestLearn p index biased s =
      { s with
        charts := (requestLearn p index biased s).charts, players := (requestLearn p index biased s).players } := by
  unfold requestLearn
  dsimp only
  split_ifs
  · rfl
  · rfl
  · split
    · split_ifs <;> rfl
    · rfl

theorem requestLearn_player_other {q : Player} (other : q ≠ p) :
    (requestLearn p index biased s).player q = s.player q := by
  have refused (result : LearnResult) : (refuseLearn p result index s).player q = s.player q :=
    placeReply_player_other _ _ _ other
  have accepted (slot : ChartSlot) (e : EntryId) : (acceptLearn p slot e biased s).player q = s.player q :=
    State.player_modPlayer_other _ other _
  unfold requestLearn
  dsimp only
  split_ifs
  · exact refused _
  · exact refused _
  · split
    · split_ifs
      · exact accepted _ _
      · exact refused _
    · exact accepted _ _

end

theorem learnOffset_eq (biased : BitVec 7) : learnOffset biased = min 48 ((biased.toNat : Int) - 24) := min_comm _ _

/-- Settles O33. -/
theorem learnRequestsAreAnswered : Obligations.LearnRequestsAreAnswered := by
  refine ⟨fun p f s up stands => ?_, fun p f s lost stands => ?_⟩
  · have taken : effect (.learnReq p f) s = requestLearn p f.c1 f.c2 (s.modPlayer p fun ps =>
        { ps with received := none, seqRef := some f.seq, statusA := statusAfterSeq ps f.seq }) := by
      refine (takeFrame_of_stands stands _).trans ?_
      simp only [takeLearnReq, clearReceived_player, up]
      rw [checkSequence_clearReceived up]
    generalize sequenced : (s.modPlayer p fun ps =>
      { ps with received := none, seqRef := some f.seq, statusA := statusAfterSeq ps f.seq }) = u at taken
    have frame : u = { s with players := u.players } := by rw [← sequenced]; rfl
    have player : u.player p =
        { s.player p with received := none, seqRef := some f.seq, statusA := statusAfterSeq (s.player p) f.seq } := by
      rw [← sequenced, State.player_modPlayer_self]
    have other_players : SameOthers p s u := fun q other => by
      rw [← sequenced]
      exact State.player_modPlayer_other _ other _
    have learn : (u.player p).learn = (s.player p).learn := by rw [player]
    have slot : (u.activeSetup p).chartSlot = (s.activeSetup p).chartSlot := by
      rw [State.activeSetup, player, frame]
      rfl
    have entries (n : ChartSlot) (e : EntryId) : u.entry n e = s.entry n e := by rw [frame]; rfl
    refine ⟨_, exec_of_effect taken, fun q other => ?_, ?_, fun refused => ?_, fun e idle named => ⟨?_, fun free => ?_⟩⟩
    · exact (requestLearn_player_other other).trans (other_players q other)
    · rw [requestLearn_eq, frame]
      exact settleLine_eq ..
    · rw [requestLearn_of_refused (by rwa [learn])]
      refine ⟨?_, ?_⟩
      · change u.charts = s.charts
        rw [frame]
      · rw [← player]
        exact placeReply_player_self ..
    · rintro ⟨q, other, reserved⟩
      rw [requestLearn_of_idle (learn.trans idle) named, slot, entries, if_pos ⟨q, other, reserved⟩]
      refine ⟨?_, ?_⟩
      · change u.charts = s.charts
        rw [frame]
      · rw [← player, named]
        exact placeReply_player_self ..
    · have accepted : requestLearn p f.c1 f.c2 u = acceptLearn p (s.activeSetup p).chartSlot e f.c2 u := by
        rw [requestLearn_of_idle (learn.trans idle) named, slot, entries]
        refine if_neg ?_
        rintro ⟨q, other, reserved⟩
        rcases free with free | own
        · exact absurd (reserved.symm.trans free) (by simp)
        · exact other (Option.some.inj (reserved.symm.trans own))
      rw [accepted]
      refine ⟨?_, fun m d other => ?_, ?_⟩
      · rw [settleLine_entry, acceptLearn, State.modPlayer_entry, State.entry_modEntry_self, entries]
      · rw [settleLine_entry, acceptLearn, State.modPlayer_entry, State.entry_modEntry, if_neg other, entries]
      · have count : u.sampleCount = s.sampleCount := by rw [frame]
        rw [settleLine_player, acceptLearn, State.player_modPlayer_self, State.modEntry_player, player, learnOffset_eq,
          count]
        rfl
  · refine exec_modPlayer_others (f := fun ps => PlayerState.placed
      (PlayerState.queued { ps with received := none } (recordOf s .learnEnded 0 0 6 f.c1.toNat))
      (.learnResult 0 .cancelled f.c1.toNat)) ?_
    refine (takeFrame_of_stands stands _).trans ?_
    simp only [takeLearnReq, clearReceived_player, lost]
    rw [requestLearnLost, placeReply_eq_modPlayer, reportLearn, report_eq_modPlayer, clearReceived]
    simp only [State.modPlayer_modPlayer]
    rfl

/-! ### A learn that ends (R56 to R59) -/

/-- Settles O34. -/
theorem learnTimeoutEndsTheLearn : Obligations.LearnTimeoutEndsTheLearn := by
  intro p r s pending due
  have taken : effect (.learnTimeout p) s = endLearn p .timeout true s :=
    if_pos ((learnDue_iff p s).2 ⟨r, pending, due⟩)
  have learns (n : ChartSlot) (e : EntryId) : (s.player p).learns n e = true ↔ n = r.slot ∧ e = r.entry := by
    rw [PlayerState.learns_iff, pending]
    grind
  refine ⟨_, exec_of_effect taken, ?_, ?_, fun n e other => ?_, fun q other => ?_, ?_⟩
  · rw [endLearn_eq]
    exact settleLine_eq ..
  · rw [settleLine_entry, endLearn_entry, if_pos ((learns _ _).2 ⟨rfl, rfl⟩)]
  · rw [settleLine_entry, endLearn_entry, if_neg (by rwa [learns])]
  · rw [settleLine_player, endLearn_player, if_neg other]
  · rw [settleLine_player, endLearn_player, if_pos rfl, if_pos rfl, pending]
    simp only [learnEndedRecords, pending]
    rfl

/-! ### Links that leave UP (R158, R160, R161) -/

/-- What a link that leaves UP reads of its player's record. -/
structure PlayerState.LeavesAlike (a b : PlayerState) : Prop where
  note : b.note = a.note
  latch : b.latch = a.latch
  learn : b.learn = a.learn
  breath : b.breath = a.breath
  selected : b.selected = a.selected
  active : b.active = a.active

theorem PlayerState.LeavesAlike.waits {a b : PlayerState} (h : LeavesAlike a b) : b.waits = a.waits := by
  rw [PlayerState.waits, PlayerState.waits, h.breath, h.selected, h.active]

section
variable {p : Player} {f : PlayerState → PlayerState} {s : State}
  (alike : PlayerState.LeavesAlike (s.player p) (f (s.player p)))
include alike

theorem leaveRecords_modPlayer (cause : Nat) : leaveRecords (s.modPlayer p f) p cause = leaveRecords s p cause := by
  have player := State.player_modPlayer_self s p f
  have note : noteOffRecords (s.modPlayer p f) p 3 = noteOffRecords s p 3 :=
    noteOffRecords_congr (s := s) (t := s.modPlayer p f) (p := p) (by rw [player, alike.note]) rfl 3
  have latches : latchClearRecords (s.modPlayer p f) p 2 = latchClearRecords s p 2 :=
    latchClearRecords_congr (s := s) (t := s.modPlayer p f) (p := p) (by rw [player, alike.latch]) rfl 2
  have learn : learnEndedRecords (s.modPlayer p f) p 6 = learnEndedRecords s p 6 :=
    learnEndedRecords_congr (s := s) (t := s.modPlayer p f) (p := p) (by rw [player, alike.learn]) rfl 6
  rw [leaveRecords, leaveRecords, note, latches, learn, appliedRecords, appliedRecords, player, alike.waits,
    alike.selected]
  rfl

/-- The record of a link that leaves UP, whose receiver has been rewritten before. -/
theorem leaveUp_modPlayer_player (cause : LostCause) (after : LinkState) :
    (leaveUp p cause after (s.modPlayer p f)).player p =
      (((f (s.player p)).left after).queuedAll (leaveRecords s p cause.code)).learnPlaced
        (if cause = .disabled then (s.player p).learn else none) .cancelled := by
  rw [leaveUp_player, if_pos rfl, State.player_modPlayer_self, leaveRecords_modPlayer alike, alike.learn]

/-- Outside the player's record such a link lets go what the record held. -/
theorem leftLink_leaveUp (cause : LostCause) (after : LinkState) :
    LeftLink p s (leaveUp p cause after (s.modPlayer p f)) := by
  have player := State.player_modPlayer_self s p f
  refine ⟨fun v => ?_, fun n e => ?_, fun q other => ?_⟩
  · rw [leaveUp_voice, player, unlatchedVoice_congr alike.latch, endedVoice_congr alike.note, State.modPlayer_voice]
  · rw [leaveUp_entry, player, PlayerState.learns, alike.learn, State.modPlayer_entry]
    rfl
  · rw [leaveUp_player, if_neg other, State.player_modPlayer_other _ other]

end

/-- Settles O35. -/
theorem silenceTimeoutLosesTheLink : Obligations.SilenceTimeoutLosesTheLink := by
  intro p s up silent
  have taken : effect (.silenceTimeout p) s = leaveUp p .silence .lost (s.modPlayer p fun ps =>
      { ps with replies := [], statusA := ps.statusA ||| 0x20 }) := by
    refine (if_pos ((silenceDue_iff p s).2 ⟨up, silent⟩)).trans ?_
    rw [loseLink, raiseFlag, State.modPlayer_modPlayer]
    rfl
  have alike : PlayerState.LeavesAlike (s.player p)
      { s.player p with replies := [], statusA := (s.player p).statusA ||| 0x20 } := ⟨rfl, rfl, rfl, rfl, rfl, rfl⟩
  refine ⟨_, exec_of_effect taken, ?_, leftLink_leaveUp alike _ _, ?_⟩
  · rw [leaveUp_eq]
    exact settleLine_eq ..
  · rw [settleLine_player, leaveUp_modPlayer_player alike]
    rfl

end Sys2Proof.Machine


/-! Desk writes: the link enable and the control requests. -/

namespace Sys2Proof.Machine

/-! ### Link enable and link reset (R160, R161) -/

theorem getLsbD_append_one (upper : BitVec 7) (b : BitVec 1) : (upper ++ b).getLsbD 0 = b.getLsbD 0 := by
  rw [BitVec.getLsbD_append]
  rfl

theorem writeLinkEnable_off_of_enabled {p : Player} {s : State} (enabled : (s.player p).enabled = true)
    (upper : BitVec 7) : writeLinkEnable p (upper ++ (0 : BitVec 1)) s = disableLink p s := by
  unfold writeLinkEnable
  rw [getLsbD_append_one, enabled]
  rfl

theorem writeLinkEnable_off_of_disabled {p : Player} {s : State} (disabled : (s.player p).enabled = false)
    (upper : BitVec 7) : writeLinkEnable p (upper ++ (0 : BitVec 1)) s = s := by
  unfold writeLinkEnable
  rw [getLsbD_append_one, disabled]
  rfl

theorem writeLinkEnable_on_of_disabled {p : Player} {s : State} (disabled : (s.player p).enabled = false)
    (upper : BitVec 7) : writeLinkEnable p (upper ++ (1 : BitVec 1)) s = enableLink p s := by
  unfold writeLinkEnable
  rw [getLsbD_append_one, disabled]
  rfl

theorem writeLinkEnable_on_of_enabled {p : Player} {s : State} (enabled : (s.player p).enabled = true)
    (upper : BitVec 7) : writeLinkEnable p (upper ++ (1 : BitVec 1)) s = s := by
  unfold writeLinkEnable
  rw [getLsbD_append_one, enabled]
  rfl

/-- A player's record with the link off and the receiver and the slot emptied (R160). -/
def PlayerState.switchedOff (ps : PlayerState) : PlayerState :=
  { ps with enabled := false, link := .down, assembly := [], received := none, slot := .idle }

theorem disableLink_of_up {p : Player} {s : State} (up : (s.player p).link = .up) :
    disableLink p s = leaveUp p .disabled .down (s.modPlayer p PlayerState.switchedOff) := if_pos up

theorem disableLink_of_not_up {p : Player} {s : State} (not_up : (s.player p).link ≠ .up) :
    disableLink p s = s.modPlayer p PlayerState.switchedOff := if_neg not_up

theorem PlayerState.leavesAlike_switchedOff (ps : PlayerState) : LeavesAlike ps ps.switchedOff :=
  ⟨rfl, rfl, rfl, rfl, rfl, rfl⟩

theorem disableLink_player_self (p : Player) (s : State) : (disableLink p s).player p = disabledRecord s p := by
  by_cases up : (s.player p).link = .up
  · rw [disableLink_of_up up, leaveUp_modPlayer_player (PlayerState.leavesAlike_switchedOff _), disabledRecord, if_pos up,
      if_pos rfl]
    cases (s.player p).learn <;> rfl
  · rw [disableLink_of_not_up up, State.player_modPlayer_self, disabledRecord, if_neg up]
    rfl

theorem disableLink_eq (p : Player) (s : State) :
    disableLink p s = { s with
      voices := (disableLink p s).voices, players := (disableLink p s).players,
      charts := (disableLink p s).charts } := by
  by_cases up : (s.player p).link = .up
  · rw [disableLink_of_up up, leaveUp_eq]
    rfl
  · rw [disableLink_of_not_up up]
    rfl

theorem writeLinkEnable_eq (p : Player) (v : Byte) (s : State) :
    writeLinkEnable p v s = { s with
      voices := (writeLinkEnable p v s).voices, players := (writeLinkEnable p v s).players,
      charts := (writeLinkEnable p v s).charts } := by
  unfold writeLinkEnable
  split_ifs
  · rfl
  · rfl
  · exact disableLink_eq p s

/-- Settles O36. -/
theorem linkEnableWrites : Obligations.LinkEnableWrites := by
  refine fun p upper s stands => ⟨?_, ?_⟩
  · have frame := writeLinkEnable_eq p (upper ++ (0 : BitVec 1)) s
    obtain ⟨t, run, moved, settled⟩ := exec_deskWrite (c := .linkDisable p upper)
      (eff := writeLinkEnable p (upper ++ (0 : BitVec 1))) rfl stands (by rw [frame]) (by rw [frame])
    refine ⟨t, run, moved, ?_, fun enabled => ?_, fun enabled up => ?_, fun enabled not_up => ?_, fun disabled => ?_⟩
    · rw [settled, frame]
      rfl
    · rw [settled, writeLinkEnable_off_of_enabled enabled]
      exact disableLink_player_self p s
    · rw [settled, writeLinkEnable_off_of_enabled enabled, disableLink_of_up up]
      exact leftLink_leaveUp (PlayerState.leavesAlike_switchedOff _) _ _
    · rw [settled, writeLinkEnable_off_of_enabled enabled, disableLink_of_not_up not_up]
      exact ⟨rfl, rfl, fun q other => State.player_modPlayer_other s other _⟩
    · rw [settled, writeLinkEnable_off_of_disabled disabled]
      exact ⟨rfl, rfl, rfl⟩
  · by_cases enabled : (s.player p).enabled = true
    · obtain ⟨t, run, moved, settled⟩ := exec_deskWrite (c := .linkEnable p upper)
        (eff := writeLinkEnable p (upper ++ (1 : BitVec 1))) rfl stands
        (by rw [writeLinkEnable_on_of_enabled enabled]) (by rw [writeLinkEnable_on_of_enabled enabled])
      rw [writeLinkEnable_on_of_enabled enabled] at settled
      refine ⟨t, run, moved, ?_, fun disabled => absurd enabled (by simp [disabled]), fun _ => ?_⟩
      all_goals rw [settled]; rfl
    · have disabled : (s.player p).enabled = false := by simpa using enabled
      obtain ⟨t, run, moved, settled⟩ := exec_deskWrite (c := .linkEnable p upper)
        (eff := writeLinkEnable p (upper ++ (1 : BitVec 1))) rfl stands
        (by rw [writeLinkEnable_on_of_disabled disabled]; rfl) (by rw [writeLinkEnable_on_of_disabled disabled]; rfl)
      rw [writeLinkEnable_on_of_disabled disabled] at settled
      refine ⟨t, run, moved, ?_, fun _ => ?_, (absurd · enabled)⟩
      · rw [settled]
        rfl
      · rw [settled]
        exact ⟨State.player_modPlayer_self s p fun ps => { ps with enabled := true, restarted := true },
          fun q other => State.player_modPlayer_other s other fun ps => { ps with enabled := true, restarted := true }⟩

theorem PlayerState.leavesAlike_resetReceiver (ps : PlayerState) : LeavesAlike ps ps.resetReceiver :=
  ⟨rfl, rfl, rfl, rfl, rfl, rfl⟩

section
variable {p : Player} {s : State}

theorem resetLink_of_up (up : (s.player p).link = .up) :
    resetLink p s =
      (leaveUp p .reset .down (s.modPlayer p PlayerState.resetReceiver)).modPlayer p PlayerState.resetPlaying := by
  unfold resetLink
  dsimp only
  rw [if_pos up]

theorem resetLink_of_not_up (not_up : (s.player p).link ≠ .up) :
    resetLink p s = (s.modPlayer p PlayerState.resetReceiver).modPlayer p PlayerState.resetPlaying := by
  unfold resetLink
  dsimp only
  rw [if_neg not_up]

theorem resetLink_player_self : (resetLink p s).player p = linkResetRecord s p := by
  by_cases up : (s.player p).link = .up
  · rw [resetLink_of_up up, State.player_modPlayer_self,
      leaveUp_modPlayer_player (PlayerState.leavesAlike_resetReceiver _), if_neg (by decide), linkResetRecord, if_pos up]
    exact PlayerState.queuedAll_then _ _ PlayerState.resetPlaying fun _ _ _ => rfl
  · rw [resetLink_of_not_up up, State.player_modPlayer_self, State.player_modPlayer_self, linkResetRecord, if_neg up]
    rfl

theorem resetLink_eq : resetLink p s = { s with
    voices := (resetLink p s).voices, players := (resetLink p s).players, charts := (resetLink p s).charts } := by
  by_cases up : (s.player p).link = .up
  · rw [resetLink_of_up up, leaveUp_eq]
    rfl
  · rw [resetLink_of_not_up up]
    rfl

theorem leftLink_resetLink (up : (s.player p).link = .up) : LeftLink p s (resetLink p s) := by
  obtain ⟨voices, entries, others⟩ :=
    leftLink_leaveUp (PlayerState.leavesAlike_resetReceiver (s.player p)) .reset .down
  rw [resetLink_of_up up]
  exact ⟨voices, entries, fun q other => (State.player_modPlayer_other _ other _).trans (others q other)⟩

end

/-- A request's argument that names a player. -/
theorem playerOf_eq {arg : BitVec 4} {p : Player} (names : arg.toNat = p.val) : (Fin.ofNat 4 arg.toNat : Player) = p :=
  Fin.ext (by rw [Fin.val_ofNat, names]; exact Nat.mod_eq_of_lt p.isLt)

theorem requestLinkReset_of_player {arg : BitVec 4} {p : Player} (names : arg.toNat = p.val) (s : State) :
    requestLinkReset arg s = resetLink p s := by
  refine (if_pos (names ▸ p.isLt)).trans ?_
  rw [playerOf_eq names]

/-- Settles O37. -/
theorem linkResetClearsTheReceiver : Obligations.LinkResetClearsTheReceiver := by
  intro p arg s names stands
  have reset := requestLinkReset_of_player names s
  have frame := resetLink_eq (p := p) (s := s)
  obtain ⟨t, run, moved, settled⟩ := exec_deskWrite (c := .linkReset arg) (eff := requestLinkReset arg) rfl stands
    (by rw [reset, frame]) (by rw [reset, frame])
  rw [reset] at settled
  refine ⟨t, run, moved, ?_, ?_, fun up => ?_, fun not_up => ?_⟩
  · rw [settled, frame]
    rfl
  · rw [settled]
    exact resetLink_player_self
  · rw [settled]
    exact leftLink_resetLink up
  · rw [settled, resetLink_of_not_up not_up]
    exact ⟨rfl, rfl, fun q other =>
      (State.player_modPlayer_other _ other _).trans (State.player_modPlayer_other _ other _)⟩

end Sys2Proof.Machine


/-! Desk writes: PANIC, RESTORE_CHART, ZERO_CAPTURE, chart entries, master tuning and reserves. -/

namespace Sys2Proof.Machine

/-! ### Bytes that rewrite one player's record, or nothing -/

section
variable {c : Instr} {s : State} {a : Half} {eff : State → State}

/-- A byte that rewrites one player's record. -/
theorem exec_deskWrite_modPlayer {p : Player} {f : PlayerState → PlayerState} (written : effect c s = deskWriteByte a eff s)
    (stands : Stands s .write a) (rewrites : eff s = s.modPlayer p f) :
    ∃ t, exec c s = .next t ∧ PortMoved s t 0 id ∧ SameOthers p s t ∧
      t = { s with
        players := t.players, txn := t.txn, miso := t.miso, pulse := t.pulse, irqHigh := t.irqHigh } ∧
      t.player p = f (s.player p) := by
  obtain ⟨t, run, moved, settled⟩ := exec_deskWrite written stands (by rw [rewrites]; rfl) (by rw [rewrites]; rfl)
  rw [rewrites] at settled
  have player : t.player = (s.modPlayer p f).player := by
    rw [settled]
    rfl
  refine ⟨t, run, moved, fun q other => ?_, ?_, ?_⟩
  · rw [player, State.player_modPlayer_other s other]
  · rw [settled]
    rfl
  · rw [player, State.player_modPlayer_self]

/-- A byte that also rewrites the transaction's own record. -/
theorem exec_deskWrite_txn {g : Transaction → Transaction} (written : effect c s = deskWriteByte a eff s)
    (stands : Stands s .write a) (keeps : ∀ x, (g x).addr = x.addr ∧ (g x).count = x.count)
    (txn : (eff s).txn = s.txn.map g) (miso : (eff s).miso = s.miso) :
    ∃ t, exec c s = .next t ∧ PortMoved s t 0 g ∧ t = settleLine s { eff s with txn := t.txn, miso := t.miso } := by
  obtain ⟨frame, moved⟩ := deskWriteByte_stands stands eff g keeps txn miso
  refine ⟨_, exec_of_effect written, moved, ?_⟩
  rw [settleLine_txn, settleLine_miso, ← frame]

/-- The byte leaves what its effect leaves, but for the port and the interrupt line. -/
theorem settled_frame {t u : State} (settled : t = settleLine s { u with txn := t.txn, miso := t.miso }) :
    t = { u with txn := t.txn, miso := t.miso, pulse := t.pulse, irqHigh := t.irqHigh } := by
  rw [settled]
  rfl

section
variable {t u : State} (settled : t = settleLine s { u with txn := t.txn, miso := t.miso })
include settled

theorem settled_voice (v : VoiceId) : t.voice v = u.voice v := by
  rw [settled]
  rfl

theorem settled_player (p : Player) : t.player p = u.player p := by
  rw [settled]
  rfl

theorem settled_entry (n : ChartSlot) (e : EntryId) : t.entry n e = u.entry n e := by
  rw [settled]
  rfl

end

/-- A byte that is ignored. -/
theorem exec_deskWrite_ignored (written : effect c s = deskWriteByte a eff s) (stands : Stands s .write a)
    (ignored : eff s = s) :
    ∃ t, exec c s = .next t ∧ PortMoved s t 0 id ∧
      t = { s with txn := t.txn, miso := t.miso, pulse := t.pulse, irqHigh := t.irqHigh } := by
  obtain ⟨t, run, moved, settled⟩ := exec_deskWrite written stands (by rw [ignored]) (by rw [ignored])
  rw [ignored] at settled
  exact ⟨t, run, moved, by rw [settled]; rfl⟩

end

/-! ### PANIC (R104, R12, R115) -/

theorem Voice.panicked_of_sounding {vo : Voice} (sounding : vo.state ≠ .free) :
    vo.panicked =
      { vo with state := .fading, target := 0, claim := none, endReported := vo.panicked.endReported } := by
  simp only [Voice.panicked, if_neg sounding]

/-- Settles O41. -/
theorem panicFadesEverything : Obligations.PanicFadesEverything := by
  intro arg s stands
  have frame := panicAll_eq s
  obtain ⟨t, run, moved, settled⟩ := exec_deskWrite (c := .panic arg) (eff := panicAll) rfl stands
    (by rw [frame]) (by rw [frame])
  have kept := settled_frame settled
  rw [frame] at kept
  have voice (v : VoiceId) : t.voice v = (s.voice v).panicked := (settled_voice settled v).trans (panicAll_voice s v)
  refine ⟨t, run, moved, ?_, fun v free => ?_, fun v sounding => ?_, fun p => ?_⟩
  · rw [kept]
  · rw [voice, Voice.panicked, if_pos free]
  · rw [voice]
    exact Voice.panicked_of_sounding sounding
  · exact (settled_player settled p).trans (panicAll_player s p)

/-! ### RESTORE_CHART, ZERO_CAPTURE and arguments that name nothing (R4, R50, R173) -/

section
variable {arg : BitVec 4}

theorem requestRestore_of_slot {n : ChartSlot} (names : arg.toNat = n.val) (s : State) :
    requestRestore arg s = restoreChart n s := by
  have slot : (Fin.ofNat 8 arg.toNat : ChartSlot) = n :=
    Fin.ext (by rw [Fin.val_ofNat, names]; exact Nat.mod_eq_of_lt n.isLt)
  refine (if_pos (names ▸ n.isLt)).trans ?_
  rw [slot]

theorem requestRestore_of_wide (wide : 8 ≤ arg.toNat) (s : State) : requestRestore arg s = s :=
  if_neg (Nat.not_lt.2 wide)

theorem requestCapture_of_player {p : Player} (names : arg.toNat = p.val) (s : State) :
    requestCapture arg s = captureZero p s := by
  refine (if_pos (names ▸ p.isLt)).trans ?_
  rw [playerOf_eq names]

theorem requestCapture_of_wide (wide : 4 ≤ arg.toNat) (s : State) : requestCapture arg s = s :=
  if_neg (Nat.not_lt.2 wide)

theorem requestLinkReset_of_wide (wide : 4 ≤ arg.toNat) (s : State) : requestLinkReset arg s = s :=
  if_neg (Nat.not_lt.2 wide)

end

/-- Settles O43. -/
theorem zeroCaptureAndBadArguments : Obligations.ZeroCaptureAndBadArguments := by
  refine fun arg s stands => ⟨fun p names => ?_, ?_⟩
  · obtain ⟨t, run, moved, others, frame, player⟩ := exec_deskWrite_modPlayer (c := .zeroCapture arg)
      (eff := requestCapture arg) (p := p) rfl stands (requestCapture_of_player names s)
    exact ⟨t, run, moved, frame, player, others⟩
  · rintro c (⟨rfl | rfl, wide⟩ | ⟨rfl, wide⟩)
    · exact exec_deskWrite_ignored (eff := requestCapture arg) rfl stands (requestCapture_of_wide wide s)
    · exact exec_deskWrite_ignored (eff := requestLinkReset arg) rfl stands (requestLinkReset_of_wide wide s)
    · exact exec_deskWrite_ignored (eff := requestRestore arg) rfl stands (requestRestore_of_wide wide s)

/-- The entries of a slot that holds none a pending learn of another slot names are untouched by preemption: an entry
is freed exactly where a preempted learn names it, and one of no reservation stays as it is. -/
theorem preempt_entry_of_free (hit : PlayerState → Bool) {s : State} {n : ChartSlot} {e : EntryId}
    (free : (s.entry n e).reservation = none) : (preempt hit s).entry n e = s.entry n e := by
  rw [preempt_entry]
  split
  · rw [← free]
  · rfl

theorem PlayerState.learnsIn_slot {ps : PlayerState} {n m : ChartSlot} {e : EntryId} (names : ps.learns m e = true)
    (within : ps.learnsIn n = true) : m = n := by
  obtain ⟨r, pending, slot, _⟩ := (PlayerState.learns_iff ps m e).1 names
  simp only [PlayerState.learnsIn, pending, decide_eq_true_eq] at within
  exact slot.symm.trans within

theorem restoreChart_entry_same (n : ChartSlot) (e : EntryId) (s : State) :
    (restoreChart n s).entry n e = referenceChart[e] := by
  have image := restoreChart_image n s n e
  rw [if_pos rfl] at image
  rw [restoreChart, preempt_entry_of_free _ (by rw [image]; exact referenceChart_reservation e), image]

theorem restoreChart_entry_other {n m : ChartSlot} (other : m ≠ n) (e : EntryId) (s : State) :
    (restoreChart n s).entry m e = s.entry m e := by
  have image := restoreChart_image n s m e
  rw [if_neg other] at image
  rw [restoreChart, preempt_entry, if_neg, image]
  rintro ⟨p, within, names⟩
  exact other (PlayerState.learnsIn_slot names within)

theorem restoreChart_player (n : ChartSlot) (s : State) (p : Player) :
    (restoreChart n s).player p = if (s.player p).learnsIn n = true then preemptedRecord s p else s.player p :=
  preempt_player (·.learnsIn n) { s with charts := s.charts.set n referenceChart } p

theorem preempt_frame (hit : PlayerState → Bool) (s : State) :
    preempt hit s = { s with charts := (preempt hit s).charts, players := (preempt hit s).players } :=
  foldl_extends (fun s t : State => t = { s with charts := t.charts, players := t.players }) _ (fun _ => rfl)
    (fun h k => by rw [k, h]) allPlayers s fun t p _ => by
      split
      · rw [endLearn_eq]
      · rfl

/-- Settles O42. -/
theorem restoreChartWritesTheImage : Obligations.RestoreChartWritesTheImage := by
  intro n arg s names stands
  have restored := requestRestore_of_slot names s
  have frame : restoreChart n s =
      { s with charts := (restoreChart n s).charts, players := (restoreChart n s).players } := preempt_frame _ _
  obtain ⟨t, run, moved, settled⟩ := exec_deskWrite (c := .restoreChart arg) (eff := requestRestore arg) rfl stands
    (by rw [restored, frame]) (by rw [restored, frame])
  rw [restored] at settled
  have kept := settled_frame settled
  rw [frame] at kept
  have player (p : Player) :
      t.player p = if (s.player p).learnsIn n = true then preemptedRecord s p else s.player p :=
    (settled_player settled p).trans (restoreChart_player n s p)
  refine ⟨t, run, moved, ?_, fun e => ?_, fun m e other => ?_, fun p within => ?_, fun p without => ?_⟩
  · rw [kept]
  · exact (settled_entry settled n e).trans (restoreChart_entry_same n e s)
  · exact (settled_entry settled m e).trans (restoreChart_entry_other other e s)
  · rw [player, if_pos within]
  · rw [player, if_neg (by simp [without])]

/-! ### Chart entries (R47, R48, R57) -/

theorem holdBuffer_eq (s : State) :
    s.holdBuffer = (s.txn.map Transaction.hold).getD (Vector.replicate _ none) := by
  unfold State.holdBuffer
  cases s.txn <;> rfl

theorem entryOffset_eq (v : Byte) : entryOffset v = max (-24) (min 48 v.toInt) := by
  unfold entryOffset clampInt
  split_ifs <;> omega

theorem entryStored_entryWritten (hold : Vector (Option Byte) 7) (flags : Byte) (old : ChartEntry) :
    EntryStored hold flags old (entryWritten hold flags old) := by
  refine ⟨rfl, rfl, rfl, ?_, rfl, rfl⟩
  rw [entryWritten, entryOffset_eq]
  rfl

section
variable (n : ChartSlot) (e : EntryId) (v : Byte) (s : State)

theorem writeEntryFlags_frame : writeEntryFlags n e v s =
    { s with
      charts := (writeEntryFlags n e v s).charts, players := (writeEntryFlags n e v s).players,
      txn := s.txn.map fun x => { x with hold := emptyHold } } := by
  rw [writeEntryFlags, preempt_frame]
  rfl

theorem writeEntryFlags_player (p : Player) :
    (writeEntryFlags n e v s).player p = if (s.player p).learns n e = true then preemptedRecord s p else s.player p :=
  preempt_player (·.learns n e) _ p

theorem writeEntryFlags_entry_same : (writeEntryFlags n e v s).entry n e = entryWritten s.holdBuffer v (s.entry n e) := by
  have written : ((s.modEntry n e (entryWritten s.holdBuffer v)).modTxn fun t => { t with hold := emptyHold }).entry n e =
      entryWritten s.holdBuffer v (s.entry n e) := State.entry_modEntry_self ..
  exact (preempt_entry_of_free _ (by rw [written]; rfl)).trans written

theorem writeEntryFlags_entry_other {m : ChartSlot} {d : EntryId} (other : ¬(m = n ∧ d = e)) :
    (writeEntryFlags n e v s).entry m d = s.entry m d := by
  have unwritten : ((s.modEntry n e (entryWritten s.holdBuffer v)).modTxn fun t => { t with hold := emptyHold }).entry m d =
      s.entry m d := (State.entry_modEntry ..).trans (if_neg other)
  refine ((preempt_entry ..).trans (if_neg ?_)).trans unwritten
  rintro ⟨p, hit, names⟩
  obtain ⟨r, pending, slot, entry⟩ := (PlayerState.learns_iff _ _ _).1 hit
  obtain ⟨r', pending', slot', entry'⟩ := (PlayerState.learns_iff _ _ _).1 names
  obtain rfl : r = r' := Option.some.inj (pending.symm.trans pending')
  exact other ⟨slot'.symm.trans slot, entry'.symm.trans entry⟩

end

/-- Settles O44. -/
theorem chartEntryWrites : Obligations.ChartEntryWrites := by
  refine fun n e v s => ⟨fun b stands => ?_, fun stands => ?_⟩
  · obtain ⟨t, run, moved, settled⟩ := exec_deskWrite_txn (c := .entryHoldingBufferWrite n e b v)
      (eff := holdEntryByte b v) (g := fun x => { x with hold := x.hold.set b (some v) }) rfl stands
      (fun _ => ⟨rfl, rfl⟩) rfl rfl
    exact ⟨t, run, moved, settled_frame settled⟩
  · have written := writeEntryFlags_frame n e v s
    obtain ⟨t, run, moved, settled⟩ := exec_deskWrite_txn (c := .chartEntryFlagsWrite n e v)
      (eff := writeEntryFlags n e v) (g := fun x => { x with hold := emptyHold }) rfl stands
      (fun _ => ⟨rfl, rfl⟩) (by rw [written]) (by rw [written])
    have kept := settled_frame settled
    rw [written] at kept
    refine ⟨t, run, moved, ?_, ?_, fun m d other => ?_, fun p names => ?_, fun p spared => ?_⟩
    · rw [kept]
    · rw [settled_entry settled, writeEntryFlags_entry_same, ← holdBuffer_eq]
      exact entryStored_entryWritten ..
    · rw [settled_entry settled, writeEntryFlags_entry_other n e v s other]
    · rw [settled_player settled, writeEntryFlags_player, if_pos names]
    · rw [settled_player settled, writeEntryFlags_player, if_neg (by simp [spared])]

/-! ### Master tuning and reserves (R83, R119, R125) -/

theorem tuningOf_eq (v : Byte) : tuningOf v = max (-100) (min 100 v.toInt) := by
  unfold tuningOf clampInt
  split_ifs <;> omega

theorem writeTuning_voice (v : Byte) (s : State) (w : VoiceId) :
    (writeTuning v s).voice w = if (s.voice w).state = .free then s.voice w else (s.voice w).retune (tuningOf v) :=
  State.voice_modVoices ..

/-- Settles O45. -/
theorem masterTuningRetunesVoices : Obligations.MasterTuningRetunesVoices := by
  intro v s stands
  obtain ⟨t, run, moved, settled⟩ := exec_deskWrite (c := .masterTuningWrite v) (eff := writeTuning v) rfl stands rfl rfl
  refine ⟨t, run, moved, ?_, fun w => ?_⟩
  · rw [settled, ← tuningOf_eq]
    rfl
  · rw [settled_voice settled, writeTuning_voice, retune_eq, tuningOf_eq]

/-- Settles O46. -/
theorem reserveWriteIsBounded : Obligations.ReserveWriteIsBounded := by
  intro p v s stands
  obtain ⟨t, run, moved, others, frame, player⟩ := exec_deskWrite_modPlayer (c := .reserveWrite p v)
    (eff := writeReserve p v) (p := p) (f := fun ps => { ps with reserve := reserveOf s p v.toNat }) rfl stands rfl
  rw [reserveOf_eq] at player
  exact ⟨t, run, moved, frame, player, others⟩

end Sys2Proof.Machine


/-! The desk map: which place lies at which address, and how the address advances. -/

namespace Sys2Proof.Machine

/-! ### Places and addresses (R170) -/

/-- The address lies at the place: it is the base of the place's unit and the offset in it. -/
inductive LiesAt (a : Half) : Place → Prop
  | control {off : Nat} (small : off < 64) (at_ : a.toNat = off) : LiesAt a (.control off)
  | window (p : Player) (at_ : a.toNat = 64 + 16 * p.val) : LiesAt a (.window p)
  | area (p : Player) {off : Nat} (small : off < 64) (at_ : a.toNat = 256 + 64 * p.val + off) : LiesAt a (.area p off)
  | setup (n : SetupId) {off : Nat} (small : off < 128) (at_ : a.toNat = 1024 + 128 * n.val + off) :
    LiesAt a (.setup n off)
  | curve (c : CurveId) {off : Nat} (small : off < 64) (at_ : a.toNat = 3072 + 64 * c.val + off) :
    LiesAt a (.curve c off)
  | chart (n : ChartSlot) (e : EntryId) (b : Fin 8) (at_ : a.toNat = 4096 + 512 * n.val + 8 * e.val + b.val) :
    LiesAt a (.chart n e b)
  | wave (n : WaveId) {off : Nat} (small : off < 512) (at_ : a.toNat = 8192 + 512 * n.val + off) :
    LiesAt a (.wave n off)
  | unmapped : LiesAt a .unmapped

/-- The sizes of the desk map's tables. -/
theorem config_sizes : Config.numPlayers = 4 ∧ Config.numSetups = 16 ∧ Config.numCurves = 8 ∧ Config.numCharts = 8 ∧
    Config.numEntries = 64 ∧ Config.numWaves = 16 := ⟨rfl, rfl, rfl, rfl, rfl, rfl⟩

theorem ofNat_eq_of_lt {m : Nat} [NeZero m] {k : Nat} (small : k < m) : (Fin.ofNat m k).val = k := by
  rw [Fin.val_ofNat, Nat.mod_eq_of_lt small]

theorem liesAt_placeOf (a : Half) : LiesAt a (placeOf a) := by
  obtain ⟨players, setups, curves, slots, entries, waves⟩ := config_sizes
  unfold placeOf
  dsimp only
  split_ifs
  · exact .control (by omega) rfl
  · exact .window _ (by rw [ofNat_eq_of_lt] <;> omega)
  · exact .unmapped
  · exact .unmapped
  · exact .area _ (by omega) (by rw [ofNat_eq_of_lt] <;> omega)
  · exact .unmapped
  · exact .setup _ (by omega) (by rw [ofNat_eq_of_lt] <;> omega)
  · exact .curve _ (by omega) (by rw [ofNat_eq_of_lt] <;> omega)
  · exact .unmapped
  · exact .chart _ _ _ (by rw [ofNat_eq_of_lt, ofNat_eq_of_lt, ofNat_eq_of_lt] <;> omega)
  · exact .wave _ (by omega) (by rw [ofNat_eq_of_lt] <;> omega)
  · exact .unmapped

theorem ofNat_eq_self {m : Nat} [NeZero m] {k : Nat} (i : Fin m) (h : k = i.val) : Fin.ofNat m k = i :=
  Fin.ext (by rw [h, ofNat_eq_of_lt i.isLt])

theorem LiesAt.placeOf_eq {a : Half} {place : Place} (h : LiesAt a place) (mapped : place ≠ .unmapped) :
    placeOf a = place := by
  obtain ⟨players, setups, curves, slots, entries, waves⟩ := config_sizes
  unfold placeOf
  dsimp only
  cases h with
  | control small at_ => rw [if_pos (by omega), at_]
  | window p at_ =>
    have := p.isLt
    rw [if_neg (by omega), if_pos (by omega), if_pos (by omega), ofNat_eq_self p (by omega)]
  | area p small at_ =>
    have := p.isLt
    rw [if_neg (by omega), if_neg (by omega), if_neg (by omega), if_pos (by omega), ofNat_eq_self p (by omega)]
    congr 1
    omega
  | setup n small at_ =>
    have := n.isLt
    rw [if_neg (by omega), if_neg (by omega), if_neg (by omega), if_neg (by omega), if_neg (by omega), if_pos (by omega),
      ofNat_eq_self n (by omega)]
    congr 1
    omega
  | curve c small at_ =>
    have := c.isLt
    rw [if_neg (by omega), if_neg (by omega), if_neg (by omega), if_neg (by omega), if_neg (by omega), if_neg (by omega),
      if_pos (by omega), ofNat_eq_self c (by omega)]
    congr 1
    omega
  | chart n e b at_ =>
    have := n.isLt
    have := e.isLt
    have := b.isLt
    rw [if_neg (by omega), if_neg (by omega), if_neg (by omega), if_neg (by omega), if_neg (by omega), if_neg (by omega),
      if_neg (by omega), if_neg (by omega), if_pos (by omega), ofNat_eq_self n (by omega), ofNat_eq_self e (by omega),
      ofNat_eq_self b (by omega)]
  | wave n small at_ =>
    have := n.isLt
    rw [if_neg (by omega), if_neg (by omega), if_neg (by omega), if_neg (by omega), if_neg (by omega), if_neg (by omega),
      if_neg (by omega), if_neg (by omega), if_neg (by omega), if_pos (by omega), ofNat_eq_self n (by omega)]
    congr 1
    omega
  | unmapped => exact absurd rfl mapped

section
variable {off : Nat}

theorem controlAddress_toNat (small : off < 64) : (controlAddress off).toNat = off := by
  rw [controlAddress, BitVec.toNat_ofNat, Nat.mod_eq_of_lt (by omega)]

theorem areaAddress_toNat (p : Player) (small : off < 64) : (areaAddress p off).toNat = 256 + 64 * p.val + off := by
  obtain ⟨players, setups, curves, slots, entries, waves⟩ := config_sizes
  have := p.isLt
  rw [areaAddress, BitVec.toNat_ofNat, Nat.mod_eq_of_lt (by omega)]

theorem setupAddress_toNat (n : SetupId) (small : off < 128) :
    (setupAddress n off).toNat = 1024 + 128 * n.val + off := by
  obtain ⟨players, setups, curves, slots, entries, waves⟩ := config_sizes
  have := n.isLt
  rw [setupAddress, BitVec.toNat_ofNat, Nat.mod_eq_of_lt (by omega)]

theorem curveAddress_toNat (c : CurveId) (small : off < 64) :
    (curveAddress c off).toNat = 3072 + 64 * c.val + off := by
  obtain ⟨players, setups, curves, slots, entries, waves⟩ := config_sizes
  have := c.isLt
  rw [curveAddress, BitVec.toNat_ofNat, Nat.mod_eq_of_lt (by omega)]

theorem windowAddress_toNat (p : Player) : (windowAddress p).toNat = 64 + 16 * p.val := by
  obtain ⟨players, setups, curves, slots, entries, waves⟩ := config_sizes
  have := p.isLt
  rw [windowAddress, BitVec.toNat_ofNat, Nat.mod_eq_of_lt (by omega)]

@[simp] theorem placeOf_controlAddress (small : off < 64) : placeOf (controlAddress off) = .control off :=
  (LiesAt.control small (controlAddress_toNat small)).placeOf_eq nofun

@[simp] theorem placeOf_areaAddress (p : Player) (small : off < 64) : placeOf (areaAddress p off) = .area p off :=
  (LiesAt.area p small (areaAddress_toNat p small)).placeOf_eq nofun

@[simp] theorem placeOf_setupAddress (n : SetupId) (small : off < 128) : placeOf (setupAddress n off) = .setup n off :=
  (LiesAt.setup n small (setupAddress_toNat n small)).placeOf_eq nofun

@[simp] theorem placeOf_curveAddress (c : CurveId) (small : off < 64) : placeOf (curveAddress c off) = .curve c off :=
  (LiesAt.curve c small (curveAddress_toNat c small)).placeOf_eq nofun

@[simp] theorem placeOf_windowAddress (p : Player) : placeOf (windowAddress p) = .window p :=
  (LiesAt.window p (windowAddress_toNat p)).placeOf_eq nofun

end

/-! ### The advance of the address (R170, R71, R46, R143) -/

/-- The next address within a unit of `size` bytes from an aligned base. -/
theorem nextWithin_toNat {a : Half} {size base off : Nat} (aligned : base % size = 0) (small : off < size)
    (top : base + size ≤ 65536) (at_ : a.toNat = base + off) :
    (nextWithin size a).toNat = base + (off + 1) % size := by
  have within : (base + off) % size = off := by
    rw [Nat.add_mod, aligned, Nat.zero_add, Nat.mod_mod, Nat.mod_eq_of_lt small]
  have wrapped : (off + 1) % size < size := Nat.mod_lt _ (by omega)
  rw [nextWithin, BitVec.toNat_ofNat, at_, within, Nat.add_sub_cancel, Nat.mod_eq_of_lt (by omega)]

/-- The address lies `off` bytes into an aligned unit of `size` bytes, and the next address wraps in that unit. -/
structure WrapsIn (a : Half) (size base off : Nat) : Prop where
  offset : a.toNat = base + off
  small : off < size
  next : (nextAddress a).toNat = base + (off + 1) % size

namespace WrapsIn
variable {a : Half} {size base off : Nat}

theorem mk' (next : nextAddress a = nextWithin size a) (aligned : base % size = 0) (top : base + size ≤ 65536)
    (offset : a.toNat = base + off) (small : off < size) : WrapsIn a size base off :=
  ⟨offset, small, by rw [next, nextWithin_toNat aligned small top offset]⟩

theorem forward (h : WrapsIn a size base off) (before : off + 1 < size) : nextAddress a = a + 1 := by
  have next := h.next
  have offset := h.offset
  have small := (nextAddress a).isLt
  rw [Nat.mod_eq_of_lt before] at next
  have one : (1 : Half).toNat = 1 := rfl
  refine BitVec.eq_of_toNat_eq ?_
  rw [BitVec.toNat_add, one, Nat.mod_eq_of_lt (by omega)]
  omega

theorem back (h : WrapsIn a size base off) (last : off + 1 = size) : (nextAddress a).toNat = base := by
  rw [h.next, last, Nat.mod_self, Nat.add_zero]

theorem moves (h : WrapsIn a size base off) (wide : 1 < size) : nextAddress a ≠ a := by
  intro still
  have next := h.next
  rw [still, h.offset] at next
  rcases Nat.lt_or_ge (off + 1) size with before | last
  · rw [Nat.mod_eq_of_lt before] at next
    omega
  · have small := h.small
    rw [show off + 1 = size by omega, Nat.mod_self] at next
    omega

end WrapsIn

/-- What the next address has to do with a place and the one after it. -/
structure Advances (a : Half) (place : Place) : Prop where
  unit : SameUnit place (placeOf (nextAddress a))
  within : ∀ base, unitBase place = some base →
    a.toNat = base + unitOffset place ∧ unitOffset place < unitSize place ∧
    (unitOffset place + 1 < unitSize place → nextAddress a = a + 1) ∧
    (unitOffset place + 1 = unitSize place → (nextAddress a).toNat = base)
  stays : (place = .unmapped ∨ ∃ p, place = .window p) ↔ nextAddress a = a

theorem WrapsIn.advances {a : Half} {place : Place} {base : Nat} (based : unitBase place = some base)
    (h : WrapsIn a (unitSize place) base (unitOffset place)) (unit : SameUnit place (placeOf (nextAddress a)))
    (wide : 1 < unitSize place) : Advances a place where
  unit := unit
  within b named := by
    obtain rfl : base = b := Option.some.inj (based.symm.trans named)
    exact ⟨h.offset, h.small, h.forward, h.back⟩
  stays := by
    refine ⟨?_, fun still => absurd still (h.moves wide)⟩
    rintro (rfl | ⟨p, rfl⟩) <;> cases based

theorem advances_placeOf (a : Half) : Advances a (placeOf a) := by
  obtain ⟨players, setups, curves, slots, entries, waves⟩ := config_sizes
  have lies := liesAt_placeOf a
  have next : nextAddress a = match placeOf a with
      | .control _ | .area _ _ | .curve _ _ => nextWithin 64 a
      | .setup _ _ => nextWithin 128 a
      | .chart _ _ _ | .wave _ _ => nextWithin 512 a
      | .window _ | .unmapped => a := by
    unfold nextAddress
    cases placeOf a <;> rfl
  cases placed : placeOf a with
  | control off =>
    rw [placed] at lies next
    obtain ⟨small, at_⟩ : off < 64 ∧ a.toNat = off := by
      cases lies
      exact ⟨by assumption, by assumption⟩
    have wraps : WrapsIn a 64 0 off := .mk' next rfl (by omega) (by omega) small
    have after : placeOf (nextAddress a) = .control ((off + 1) % 64) :=
      (LiesAt.control (Nat.mod_lt _ (by omega)) (by rw [wraps.next, Nat.zero_add])).placeOf_eq nofun
    exact WrapsIn.advances rfl wraps (by rw [after]; trivial) (by decide : 1 < 64)
  | window p =>
    rw [placed] at next
    exact ⟨by rw [next, placed]; rfl, nofun, ⟨fun _ => next, fun _ => .inr ⟨p, rfl⟩⟩⟩
  | area p off =>
    rw [placed] at lies next
    obtain ⟨small, at_⟩ : off < 64 ∧ a.toNat = 256 + 64 * p.val + off := by
      cases lies
      exact ⟨by assumption, by assumption⟩
    have wraps : WrapsIn a 64 (256 + 64 * p.val) off := .mk' next (by omega) (by omega) at_ small
    have after : placeOf (nextAddress a) = .area p ((off + 1) % 64) :=
      (LiesAt.area p (Nat.mod_lt _ (by omega)) wraps.next).placeOf_eq nofun
    exact WrapsIn.advances rfl wraps (by rw [after]; rfl) (by decide : 1 < 64)
  | setup n off =>
    rw [placed] at lies next
    obtain ⟨small, at_⟩ : off < 128 ∧ a.toNat = 1024 + 128 * n.val + off := by
      cases lies
      exact ⟨by assumption, by assumption⟩
    have wraps : WrapsIn a 128 (1024 + 128 * n.val) off := .mk' next (by omega) (by omega) at_ small
    have after : placeOf (nextAddress a) = .setup n ((off + 1) % 128) :=
      (LiesAt.setup n (Nat.mod_lt _ (by omega)) wraps.next).placeOf_eq nofun
    exact WrapsIn.advances rfl wraps (by rw [after]; rfl) (by decide : 1 < 128)
  | curve c off =>
    rw [placed] at lies next
    obtain ⟨small, at_⟩ : off < 64 ∧ a.toNat = 3072 + 64 * c.val + off := by
      cases lies
      exact ⟨by assumption, by assumption⟩
    have wraps : WrapsIn a 64 (3072 + 64 * c.val) off := .mk' next (by omega) (by omega) at_ small
    have after : placeOf (nextAddress a) = .curve c ((off + 1) % 64) :=
      (LiesAt.curve c (Nat.mod_lt _ (by omega)) wraps.next).placeOf_eq nofun
    exact WrapsIn.advances rfl wraps (by rw [after]; rfl) (by decide : 1 < 64)
  | chart n e b =>
    rw [placed] at lies next
    obtain at_ : a.toNat = 4096 + 512 * n.val + 8 * e.val + b.val := by
      cases lies
      assumption
    have entry := e.isLt
    have byte := b.isLt
    have wraps : WrapsIn a 512 (4096 + 512 * n.val) (8 * e.val + b.val) :=
      .mk' next (by omega) (by omega) (by omega) (by omega)
    have wrapped : (8 * e.val + b.val + 1) % 512 < 512 := Nat.mod_lt _ (by omega)
    have after : placeOf (nextAddress a) = .chart n ⟨(8 * e.val + b.val + 1) % 512 / 8, by omega⟩
        ⟨(8 * e.val + b.val + 1) % 512 % 8, Nat.mod_lt _ (by omega)⟩ :=
      (LiesAt.chart n _ _ (by rw [wraps.next]; dsimp only; omega)).placeOf_eq nofun
    exact WrapsIn.advances rfl wraps (by rw [after]; rfl) (by decide : 1 < 512)
  | wave n off =>
    rw [placed] at lies next
    obtain ⟨small, at_⟩ : off < 512 ∧ a.toNat = 8192 + 512 * n.val + off := by
      cases lies
      exact ⟨by assumption, by assumption⟩
    have wraps : WrapsIn a 512 (8192 + 512 * n.val) off := .mk' next (by omega) (by omega) at_ small
    have after : placeOf (nextAddress a) = .wave n ((off + 1) % 512) :=
      (LiesAt.wave n (Nat.mod_lt _ (by omega)) wraps.next).placeOf_eq nofun
    exact WrapsIn.advances rfl wraps (by rw [after]; rfl) (by decide : 1 < 512)
  | unmapped =>
    rw [placed] at next
    exact ⟨by rw [next, placed]; trivial, nofun, ⟨fun _ => next, fun _ => .inl rfl⟩⟩

/-- Settles O52. -/
theorem addressesWrapWithinTheirUnit : Obligations.AddressesWrapWithinTheirUnit := fun a =>
  have advances := advances_placeOf a
  ⟨advances.unit, advances.within, advances.stays⟩

end Sys2Proof.Machine


/-! Desk writes at an address: registers, sixteen-bit fields and wave entries. -/

namespace Sys2Proof.Machine

/-! ### What a byte does at each place (R170) -/

section
variable {a : Half} {off : Nat} (v : Byte) (s : State)

theorem writeByteAt_control (h : placeOf a = .control off) : writeByteAt a v s = writeControl a off v s := by
  unfold writeByteAt
  rw [h]

theorem writeByteAt_area {p : Player} (h : placeOf a = .area p off) : writeByteAt a v s = writeArea a p off v s := by
  unfold writeByteAt
  rw [h]

theorem writeByteAt_setup {n : SetupId} (h : placeOf a = .setup n off) :
    writeByteAt a v s = writeSetup a n off v s := by
  unfold writeByteAt
  rw [h]

theorem writeByteAt_curve {c : CurveId} (h : placeOf a = .curve c off) :
    writeByteAt a v s = writeCurve a c off v s := by
  unfold writeByteAt
  rw [h]

theorem writeByteAt_wave {n : WaveId} (h : placeOf a = .wave n off) : writeByteAt a v s = writeWave a n off v s := by
  unfold writeByteAt
  rw [h]

theorem writeByteAt_window {p : Player} (h : placeOf a = .window p) : writeByteAt a v s = s := by
  unfold writeByteAt
  rw [h]

theorem writeByteAt_unmapped (h : placeOf a = .unmapped) : writeByteAt a v s = s := by
  unfold writeByteAt
  rw [h]

theorem writeArea_empty (p : Player) (empty : off = 7 ∨ 10 ≤ off) : writeArea a p off v s = s := by
  rcases empty with rfl | high
  · rfl
  · obtain ⟨k, rfl⟩ := Nat.exists_eq_add_of_le' high
    rfl

theorem writeControl_empty (empty : off < 8 ∨ 22 ≤ off ∧ off ≠ 25) : writeControl a off v s = s := by
  rcases empty with low | ⟨high, other⟩
  · interval_cases off <;> rfl
  · rcases Nat.lt_or_ge off 26 with below | above
    · have small : off < 25 := by omega
      interval_cases off <;> rfl
    · obtain ⟨k, rfl⟩ := Nat.exists_eq_add_of_le' above
      rfl

theorem controlRequest_unknown (unknown : v.toNat / 16 = 0 ∨ 6 ≤ v.toNat / 16) : controlRequest v s = s := by
  have code : (v.extractLsb' 4 4 : BitVec 4).toNat = v.toNat / 16 := by
    have := v.isLt
    rw [BitVec.extractLsb'_toNat, Nat.shiftRight_eq_div_pow]
    omega
  unfold controlRequest
  rw [code]
  rcases unknown with zero | high
  · rw [zero]
    rfl
  · obtain ⟨k, eq⟩ := Nat.exists_eq_add_of_le' high
    rw [eq]
    rfl

end

/-- A byte that DESK_WRITE writes where the port stands. -/
theorem effect_deskWrite {s : State} {a : Half} (stands : Stands s .write a) (v : Byte) :
    effect (.deskWrite a v) s = deskWriteByte a (writeByteAt a v) s := deskByte_write stands v

theorem ite_even {α : Type} (v : Byte) (x y : α) :
    (if v.toNat % 2 = 0 then x else y) = if v.getLsbD 0 then y else x := by
  rw [BitVec.getLsbD, Nat.testBit_zero]
  rcases Nat.mod_two_eq_zero_or_one v.toNat with even | odd
  · simp [even]
  · simp [odd]

theorem clampNat_eq {lo hi : Nat} (proper : lo ≤ hi) (x : Nat) : clampNat lo hi x = max lo (min x hi) := by
  unfold clampNat
  split_ifs <;> omega

theorem clampInt_eq {lo hi : Int} (proper : lo ≤ hi) (x : Int) : clampInt lo hi x = max lo (min hi x) := by
  unfold clampInt
  split_ifs <;> omega

theorem Rate.ofByte_eq (v : Byte) : Rate.ofByte v = if v = 0 then .r250 else if v = 1 then .r500 else .r1000 := by
  revert v
  decide

/-- Settles O47. -/
theorem portRegisterWrites : Obligations.PortRegisterWrites := by
  refine fun v s => ⟨fun p stands => ?_, fun p stands => ?_, fun p stands => ?_, fun stands => ?_, fun stands => ?_,
    fun stands => ?_, fun p stands => ?_, fun p stands => ?_, fun a stands place => ?_⟩
  · exact exec_deskWrite_modPlayer (eff := writeThreshold p v) (f := fun ps => { ps with threshold := min v.toNat 15 })
      rfl stands rfl
  · exact exec_deskWrite_modPlayer (eff := writeMask (.maskA p) v) (f := fun ps => { ps with maskA := v }) rfl stands rfl
  · exact exec_deskWrite_modPlayer (eff := writeMask (.maskB p) v) (f := fun ps => { ps with maskB := v &&& 0x07 }) rfl
      stands rfl
  · obtain ⟨t, run, moved, settled⟩ := exec_deskWrite (c := .maskWrite .global v) (eff := writeMask .global v) rfl
      stands rfl rfl
    exact ⟨t, run, moved, settled_frame settled⟩
  · obtain ⟨t, run, moved, settled⟩ := exec_deskWrite (c := .interruptModeWrite v) (eff := writeMode v) rfl stands rfl rfl
    rw [← ite_even]
    exact ⟨t, run, moved, settled_frame settled⟩
  · obtain ⟨t, run, moved, settled⟩ := exec_deskWrite (c := .interruptPolarityWrite v) (eff := writePolarity v) rfl
      stands rfl rfl
    rw [← ite_even]
    exact ⟨t, run, moved, settled_frame settled⟩
  · rw [← clampNat_eq (by decide)]
    exact exec_deskWrite_modPlayer (f := fun ps => { ps with ceiling := clampNat 1 64 v.toNat }) (effect_deskWrite stands v)
      stands (writeByteAt_area v s (placeOf_areaAddress p (by decide)))
  · rw [← Rate.ofByte_eq]
    exact exec_deskWrite_modPlayer (f := fun ps => { ps with configuredRate := Rate.ofByte v })
      (effect_deskWrite stands v) stands (writeByteAt_area v s (placeOf_areaAddress p (by decide)))
  · refine exec_deskWrite_ignored (effect_deskWrite stands v) stands ?_
    rcases place with none | ⟨p, window⟩ | ⟨p, off, area, empty⟩ | ⟨off, control, empty⟩ | ⟨c, off, curve, after⟩ |
      ⟨rfl, unknown⟩
    · exact writeByteAt_unmapped v s none
    · exact writeByteAt_window v s window
    · exact (writeByteAt_area v s area).trans (writeArea_empty v s p empty)
    · exact (writeByteAt_control v s control).trans (writeControl_empty v s empty)
    · exact (writeByteAt_curve v s curve).trans (if_neg (Nat.not_lt.2 after))
    · exact (writeByteAt_control v s (placeOf_controlAddress (off := 8) (by decide))).trans (controlRequest_unknown v s unknown)

end Sys2Proof.Machine


/-! Sixteen-bit fields of the desk map. -/

namespace Sys2Proof.Machine

/-! ### The setup's sixteen-bit fields (R187) -/

theorem Setup.half_of_mem {k : Nat} (field : k ∈ setupHalfOffsets) (st : Setup) : ∃ x, st.half k = some x := by
  simp only [setupHalfOffsets, List.mem_cons, List.not_mem_nil, or_false] at field
  rcases field with rfl | rfl | rfl | rfl | rfl | rfl | rfl | rfl <;> exact ⟨_, rfl⟩

theorem Setup.half_of_not_mem {k : Nat} (none_ : k ∉ setupHalfOffsets) (st : Setup) : st.half k = none := by
  simp only [setupHalfOffsets, List.mem_cons, List.not_mem_nil, or_false, not_or] at none_
  unfold Setup.half
  split <;> simp_all

theorem setupHalfOffsets_even {k : Nat} (field : k ∈ setupHalfOffsets) : k % 2 = 0 := by
  revert k
  decide

theorem setupHalfOffsets_lt {k : Nat} (field : k ∈ setupHalfOffsets) : k < 64 := by
  revert k
  decide

theorem evenOffset_even {k : Nat} (even : k % 2 = 0) : evenOffset k = k := by rw [evenOffset, even, Nat.sub_zero]

theorem evenOffset_odd {k : Nat} (even : k % 2 = 0) : evenOffset (k + 1) = k := by
  unfold evenOffset
  omega

section
variable {a : Half} {n : SetupId} {k : Nat} (field : k ∈ setupHalfOffsets) (v : Byte) (s : State)
include field

theorem writeSetup_low : writeSetup a n k v s = { s with heldLow := some (a, v) } := by
  obtain ⟨x, half⟩ := Setup.half_of_mem field (s.setup n)
  have even := setupHalfOffsets_even field
  unfold writeSetup
  simp only [evenOffset_even even, half, even]
  exact writeHalfField_low a v _ s

theorem writeSetup_high : writeSetup a n (k + 1) v s =
    writeHalfField a true v (fun x t => t.modSetup n (Setup.writeHalf k x)) s := by
  obtain ⟨x, half⟩ := Setup.half_of_mem field (s.setup n)
  have even := setupHalfOffsets_even field
  have odd : (k + 1) % 2 = 1 := by omega
  unfold writeSetup
  simp only [evenOffset_odd even, half, odd]
  rfl

end

/-! ### Low bytes (R171) -/

theorem writeByteAt_low {a : Half} (low : IsLowByte a) (v : Byte) (s : State) :
    writeByteAt a v s = { s with heldLow := some (a, v) } := by
  unfold IsLowByte at low
  cases place : placeOf a with
  | control off =>
    rw [place] at low
    rw [writeByteAt_control v s place]
    simp only [List.mem_cons, List.not_mem_nil, or_false] at low
    rcases low with rfl | rfl | rfl | rfl | rfl <;> rfl
  | area p off =>
    rw [place] at low
    dsimp only at low
    rw [writeByteAt_area v s place, low]
    rfl
  | setup n off =>
    rw [place] at low
    rw [writeByteAt_setup v s place, writeSetup_low low]
  | curve c off =>
    rw [place] at low
    obtain ⟨point, even⟩ := low
    rw [writeByteAt_curve v s place, writeCurve, if_pos point, even]
    exact writeHalfField_low a v _ s
  | wave n off =>
    rw [place] at low
    dsimp only at low
    rw [writeByteAt_wave v s place, writeWave, low]
    exact writeHalfField_low a v _ s
  | window | chart | unmapped =>
    rw [place] at low
    exact low.elim

/-- Settles O48. -/
theorem lowByteIsHeld : Obligations.LowByteIsHeld := by
  intro a v s low stands
  have held := writeByteAt_low low v s
  obtain ⟨t, run, moved, settled⟩ := exec_deskWrite (effect_deskWrite stands v) stands (by rw [held]) (by rw [held])
  rw [held] at settled
  exact ⟨t, run, moved, settled_frame settled⟩

/-! ### High bytes (R171) -/

/-- The high byte of a field makes the field take the value of `fieldValue`. -/
theorem exec_highByte {a : Half} {v : Byte} {s : State} {commit : Half → State → State} (stands : Stands s .write a)
    (field : writeByteAt a v s = writeHalfField a true v commit s)
    (port : ∀ x u, (commit x u).txn = u.txn ∧ (commit x u).miso = u.miso) :
    ∃ x t, x.toNat = fieldValue s a (s.byteAt (a - 1)) v ∧ exec (.deskWrite a v) s = .next t ∧ PortMoved s t 0 id ∧
      t = settleLine s { commit x { s with heldLow := heldAfter s a } with txn := t.txn, miso := t.miso } := by
  obtain ⟨x, value, committed⟩ := writeHalfField_high a v commit s
  have eff := field.trans committed
  obtain ⟨t, run, moved, settled⟩ := exec_deskWrite (effect_deskWrite stands v) stands
    (by rw [eff, (port ..).1]) (by rw [eff, (port ..).2])
  rw [eff] at settled
  exact ⟨x, t, value, run, moved, settled⟩

theorem pred_toNat {a : Half} {k : Nat} (h : a.toNat = k + 1) : (a - 1).toNat = k := by
  have small := a.isLt
  have one : (1 : Half).toNat = 1 := rfl
  rw [BitVec.toNat_sub, one, h]
  omega

theorem pred_eq {a b : Half} (h : a.toNat = b.toNat + 1) : a - 1 = b := BitVec.eq_of_toNat_eq (pred_toNat h)

theorem lowByte_natHalf (n : Nat) : lowByte (natHalf n) = BitVec.ofNat 8 n := by
  refine BitVec.eq_of_toNat_eq ?_
  rw [lowByte, natHalf, BitVec.extractLsb'_toNat, BitVec.toNat_ofNat, BitVec.toNat_ofNat, Nat.shiftRight_zero]
  omega

theorem placeOf_wave {a : Half} (low : 8192 ≤ a.toNat) (high : a.toNat < 16384) :
    ∃ n off, off < 512 ∧ a.toNat = 8192 + 512 * n.val + off ∧ placeOf a = .wave n off := by
  have wave : (a.toNat - 8192) / 512 < Config.numWaves := by
    change _ < 16
    omega
  have small : (a.toNat - 8192) % 512 < 512 := Nat.mod_lt _ (by omega)
  have at_ : a.toNat = 8192 + 512 * ((a.toNat - 8192) / 512) + (a.toNat - 8192) % 512 := by omega
  exact ⟨⟨_, wave⟩, _, small, at_, (LiesAt.wave ⟨_, wave⟩ small at_).placeOf_eq nofun⟩

theorem half_bytes (x : Half) : 256 * (x.extractLsb' 8 8).toNat + (x.extractLsb' 0 8).toNat = x.toNat := by
  have small := x.isLt
  rw [BitVec.extractLsb'_toNat, BitVec.extractLsb'_toNat, Nat.shiftRight_eq_div_pow, Nat.shiftRight_zero]
  omega

/-- Settles O49. -/
theorem waveEntryWrite : Obligations.WaveEntryWrite := by
  intro a v s low high odd canonical stands
  obtain ⟨n, off, small, at_, place⟩ := placeOf_wave low high
  obtain ⟨j, rfl⟩ : ∃ j, off = 2 * j + 1 := ⟨off / 2, by omega⟩
  have below : a.toNat - 1 = waveAddress n j := by
    unfold waveAddress
    omega
  have above : a.toNat = waveAddress n j + 1 := by omega
  have pred : placeOf (a - 1) = .wave n (2 * j) :=
    (LiesAt.wave n (by omega) (pred_toNat (by omega))).placeOf_eq nofun
  have stored : s.byteAt (a - 1) = Memory.read s.waves (waveAddress n j) := by
    rw [State.byteAt, pred]
    rfl
  have field : writeByteAt a v s =
      writeHalfField a true v (fun x t => { t with waves := Memory.writeHalf t.waves (waveAddress n j) x }) s := by
    have entry : (2 * j + 1) / 2 = j := by omega
    have second : (2 * j + 1) % 2 = 1 := by omega
    rw [writeByteAt_wave v s place, writeWave, entry, second]
    rfl
  obtain ⟨x, t, value, run, moved, settled⟩ := exec_highByte stands field fun _ _ => ⟨rfl, rfl⟩
  have kept := settled_frame settled
  have waves : t.waves = Memory.writeHalf s.waves (waveAddress n j) x := by rw [kept]
  obtain ⟨lower, upper⟩ := Memory.read_writeHalf s.waves (waveAddress n j) x canonical
  refine ⟨t, run, moved, ?_, ?_, fun b not_upper not_lower => ?_⟩
  · rw [kept]
  · rw [waves, below, above, lower, upper, ← stored, half_bytes, value]
  · rw [waves]
    exact Memory.read_writeHalf_other _ _ _ _ (below ▸ not_lower) (above ▸ not_upper)

/-- The value of an override entry's sixteen bits (R69). -/
theorem overrideOf_eq (x : Half) : overrideOf x = overrideFrom x.toNat := by
  have small := x.isLt
  have lower : (lowByte x).toNat = x.toNat % 256 := by
    rw [lowByte, BitVec.extractLsb'_toNat, Nat.shiftRight_zero]
  have upper : (highByte x).toNat = x.toNat / 256 := by
    rw [highByte, BitVec.extractLsb'_toNat, Nat.shiftRight_eq_div_pow]
    omega
  have byte : lowByte x = BitVec.ofNat 8 x.toNat := BitVec.eq_of_toNat_eq (by rw [lower, BitVec.toNat_ofNat])
  rw [overrideOf, overrideFrom, upper, lower, clampInt_eq (lo := -3) (hi := 3) (by decide), byte]

theorem Setup.writeHalf_eq {k : Nat} (field : k ∈ setupHalfOffsets) (x : Half) (st : Setup) :
    st.writeHalf k x = setupFieldAfter k x.toNat st := by
  simp only [setupHalfOffsets, List.mem_cons, List.not_mem_nil, or_false] at field
  rcases field with rfl | rfl | rfl | rfl | rfl | rfl | rfl | rfl
  · exact congrArg (fun o => { st with override1 := o }) (overrideOf_eq x)
  · exact congrArg (fun o => { st with override2 := o }) (overrideOf_eq x)
  · exact congrArg (fun o => { st with override3 := o }) (overrideOf_eq x)
  · exact congrArg (fun o => { st with onset := o }) (clampNat_eq (lo := 1) (hi := 4095) (by decide) x.toNat)
  all_goals rfl

theorem writeControl_directGain (a : Half) (p : Player) (v : Byte) (s : State) :
    writeControl a (0x0F + 2 * p.val) v s =
      writeHalfField a true v (fun x t => { t with directGains := t.directGains.set p (gainOf x) }) s := by
  match p with
  | 0 | 1 | 2 | 3 => rfl

theorem controlByte_directGain (p : Player) (s : State) :
    s.controlByte (0x0E + 2 * p.val) = BitVec.ofNat 8 s.directGains[p] := by
  rw [← lowByte_natHalf]
  match p with
  | 0 | 1 | 2 | 3 => rfl

section
variable {c : CurveId} (i : Fin Config.numPoints)

theorem writeCurve_point (a : Half) (v : Byte) (s : State) :
    writeCurve a c (2 * i.val + 1) v s = writeHalfField a true v (writePoint c i) s := by
  have small : i.val < 17 := i.isLt
  have second : (2 * i.val + 1) % 2 = 1 := by omega
  have point : Fin.ofNat Config.numPoints ((2 * i.val + 1) / 2) = i := ofNat_eq_self i (by omega)
  rw [writeCurve, if_pos (by omega), point, second]
  rfl

theorem byteAt_curve_point {a : Half} (place : placeOf a = .curve c (2 * i.val)) (s : State) :
    s.byteAt a = BitVec.ofNat 8 s.curves[c][i] := by
  have small : i.val < 17 := i.isLt
  have even : 2 * i.val % 2 = 0 := by omega
  have half : 2 * i.val / 2 = i.val := by omega
  have point : s.curves[c].toList.getD i.val 0 = s.curves[c][i] := by simp
  rw [State.byteAt, place]
  dsimp only
  rw [if_pos (by omega), half, point, halfByteAt, if_pos even, lowByte_natHalf]

end

/-- Settles O50. -/
theorem highByteCommitsTheField : Obligations.HighByteCommitsTheField := by
  refine fun v s => ⟨fun stands => ?_, fun p stands => ?_, fun p stands => ?_, fun c i stands => ?_,
    fun n k field stands => ?_⟩
  · obtain ⟨x, t, value, run, moved, settled⟩ := exec_highByte (commit := fun x t => { t with masterGain := gainOf x })
      (v := v) stands rfl fun _ _ => ⟨rfl, rfl⟩
    have stored : s.byteAt (0x0D - 1) = BitVec.ofNat 8 s.masterGain := lowByte_natHalf _
    rw [stored] at value
    exact ⟨t, run, moved, by rw [settled_frame settled, gainOf, value]⟩
  · have player : p.val < 4 := p.isLt
    have pred : controlAddress (0x0F + 2 * p.val) - 1 = controlAddress (0x0E + 2 * p.val) := pred_eq (by
      rw [controlAddress_toNat (by omega), controlAddress_toNat (by omega)]
      omega)
    obtain ⟨x, t, value, run, moved, settled⟩ := exec_highByte (v := v) stands
      ((writeByteAt_control v s (placeOf_controlAddress (by omega))).trans (writeControl_directGain _ p v s))
      fun _ _ => ⟨rfl, rfl⟩
    have stored : s.byteAt (controlAddress (0x0E + 2 * p.val)) = BitVec.ofNat 8 s.directGains[p] := by
      rw [State.byteAt, placeOf_controlAddress (by omega)]
      exact controlByte_directGain p s
    rw [pred, stored] at value
    exact ⟨t, run, moved, by rw [settled_frame settled, gainOf, value]⟩
  · have pred : areaAddress p 5 - 1 = areaAddress p 4 := pred_eq (by
      rw [areaAddress_toNat p (by decide), areaAddress_toNat p (by decide)])
    obtain ⟨x, t, value, run, moved, settled⟩ := exec_highByte (v := v)
      (commit := fun x t => t.modPlayer p fun ps => { ps with zeroOffset := min x.toNat 4095 }) stands
      (writeByteAt_area v s (placeOf_areaAddress p (by decide))) fun _ _ => ⟨rfl, rfl⟩
    have stored : s.byteAt (areaAddress p 4) = BitVec.ofNat 8 (s.player p).zeroOffset := by
      rw [State.byteAt, placeOf_areaAddress p (by decide)]
      exact lowByte_natHalf _
    rw [pred, stored] at value
    refine ⟨t, run, moved, fun q other => ?_, ?_, ?_⟩
    · rw [settled_player settled]
      exact State.player_modPlayer_other _ other _
    · rw [settled_frame settled]
      rfl
    · rw [settled_player settled, State.player_modPlayer_self, value]
      rfl
  · have point : i.val < 17 := i.isLt
    have pred : curveAddress c (2 * i.val + 1) - 1 = curveAddress c (2 * i.val) := pred_eq (by
      rw [curveAddress_toNat c (by omega), curveAddress_toNat c (by omega)]
      omega)
    obtain ⟨x, t, value, run, moved, settled⟩ := exec_highByte (v := v) stands
      ((writeByteAt_curve v s (placeOf_curveAddress c (by omega))).trans (writeCurve_point i _ v s))
      fun _ _ => ⟨rfl, rfl⟩
    rw [pred, byteAt_curve_point i (placeOf_curveAddress c (by omega))] at value
    exact ⟨t, run, moved, by rw [settled_frame settled, writePoint, value]⟩
  · have small := setupHalfOffsets_lt field
    have pred : setupAddress n (k + 1) - 1 = setupAddress n k := pred_eq (by
      rw [setupAddress_toNat n (by omega), setupAddress_toNat n (by omega)]
      omega)
    obtain ⟨x, t, value, run, moved, settled⟩ := exec_highByte (v := v) stands
      ((writeByteAt_setup v s (placeOf_setupAddress n (by omega))).trans (writeSetup_high field v s))
      fun _ _ => ⟨rfl, rfl⟩
    have stored : s.byteAt (setupAddress n k) = (s.setup n).byte k := by
      rw [State.byteAt, placeOf_setupAddress n (by omega)]
    rw [pred, stored] at value
    have setups (m : SetupId) : t.setup m = (s.modSetup n (Setup.writeHalf k x)).setup m := by
      rw [settled]
      rfl
    refine ⟨t, run, moved, ?_, fun m other => ?_, ?_⟩
    · rw [settled_frame settled]
      rfl
    · rw [setups, State.setup_modSetup, if_neg other]
    · rw [setups, State.setup_modSetup, if_pos rfl, Setup.writeHalf_eq field, value]

end Sys2Proof.Machine


/-! One-byte fields of a setup. -/

namespace Sys2Proof.Machine

/-! ### Key sets by byte (R70) -/

theorem keyByte_append (x y z : Byte) : keyByte (x ++ y ++ z) 0 = z ∧ keyByte (x ++ y ++ z) 1 = y ∧
    keyByte (x ++ y ++ z) 2 = x := by
  refine ⟨?_, ?_, ?_⟩ <;>
  · refine BitVec.eq_of_getLsbD_eq fun i small => ?_
    simp only [keyByte, BitVec.getLsbD_extractLsb', BitVec.getLsbD_append]
    grind

theorem keyByte_withKeyByte {i j : Nat} (small : i < 3) (small' : j < 3) (v : Byte) (k : KeySet) :
    keyByte (withKeyByte i v k) j = if j = i then v else keyByte k j := by
  interval_cases i
  · obtain ⟨zero, one, two⟩ := keyByte_append (k.extractLsb' 16 8) (k.extractLsb' 8 8) v
    interval_cases j
    exacts [zero, one, two]
  · obtain ⟨zero, one, two⟩ := keyByte_append (k.extractLsb' 16 8) v (k.extractLsb' 0 8)
    interval_cases j
    exacts [zero, one, two]
  · obtain ⟨zero, one, two⟩ := keyByte_append v (k.extractLsb' 8 8) (k.extractLsb' 0 8)
    interval_cases j
    exacts [zero, one, two]

/-! ### Layer bytes (R66 to R68) -/

/-- The value a one-byte flag reads after a write, modulo 2. -/
theorem boolByte_odd (v : Byte) : boolByte (v.toNat % 2 = 1) = BitVec.ofNat 8 (v.toNat % 2) := by
  rcases Nat.mod_two_eq_zero_or_one v.toNat with even | odd
  · simp [boolByte, even]
  · simp [boolByte, odd]

theorem intByte_clampInt {n : Int} (nonneg : 0 ≤ n) (v : Byte) :
    intByte (clampInt (-n) n v.toInt) = BitVec.ofInt 8 (max (-n) (min n v.toInt)) := by
  rw [intByte, clampInt_eq (by omega)]

theorem Layer.byte_write {i j : Nat} (small : i < 8) (small' : j < 8) (v : Byte) (l : Layer) :
    (l.write i v).byte j = if j = i then setupByteAfter (64 + i) v else l.byte j := by
  have interval := intByte_clampInt (n := 24) (by decide) v
  have detune := intByte_clampInt (n := 50) (by decide) v
  split_ifs with same
  · subst same
    interval_cases j
    · exact boolByte_odd v
    · exact interval
    · exact detune
    · rfl
    · rfl
    · exact boolByte_odd v
    · rfl
    · rfl
  · interval_cases i <;> interval_cases j <;> first | exact absurd rfl same | rfl

/-! ### Bytes below the layers (R63 to R65, R70) -/

section
variable (off : Nat) (v : Byte) (st : Setup)

theorem Setup.writePlain_layers : (st.writePlain off v).layers = st.layers := by
  unfold Setup.writePlain
  split <;> rfl

theorem Setup.writePlain_half (m : Nat) : (st.writePlain off v).half m = st.half m := by
  unfold Setup.writePlain
  split <;> rfl

theorem Setup.plainByte_high {k : Nat} (high : 31 ≤ k) : st.plainByte k = 0 := by
  obtain ⟨j, rfl⟩ := Nat.exists_eq_add_of_le' high
  rfl

theorem setupByteAfter_high {off : Nat} (high : 31 ≤ off) (below : ¬(64 ≤ off ∧ off < 96)) :
    setupByteAfter off v = 0 := by
  unfold setupByteAfter
  dsimp only
  rw [if_neg below, if_neg (by omega), if_neg (by omega), if_neg (by omega), if_neg (by omega), if_neg (by omega),
    if_neg (by omega), if_neg (by omega), if_neg (by omega), if_neg (by omega), if_neg (by omega)]

end

theorem policyByte_odd (v : Byte) :
    Policy.byte (if v.toNat % 2 = 0 then .hold else .silent) = BitVec.ofNat 8 (v.toNat % 2) := by
  rcases Nat.mod_two_eq_zero_or_one v.toNat with even | odd
  · rw [even]
    rfl
  · rw [odd]
    rfl

theorem Setup.plainByte_writePlain_same {off : Nat} (v : Byte) (st : Setup) (below : ¬(64 ≤ off ∧ off < 96)) :
    (st.writePlain off v).plainByte off = setupByteAfter off v := by
  have transpose := intByte_clampInt (n := 24) (by decide) v
  have smoothing := congrArg natByte (clampNat_eq (lo := 1) (hi := 16) (by decide) v.toNat)
  have whole : natByte v.toNat = v := BitVec.ofNat_toNat ..
  have key (i : Nat) (small : i < 3) (k : KeySet) : keyByte (withKeyByte i v k) i = v := by
    rw [keyByte_withKeyByte small small, if_pos rfl]
  match off with
  | 1 | 4 => exact key 0 (by decide) _
  | 2 | 5 => exact key 1 (by decide) _
  | 3 | 6 => exact key 2 (by decide) _
  | 10 => exact policyByte_odd v
  | 12 => exact transpose
  | 23 => exact smoothing
  | 30 => exact whole
  | 0 | 7 | 8 | 9 | 11 | 13 | 14 | 15 | 16 | 17 | 18 | 19 | 20 | 21 | 22 | 24 | 25 | 26 | 27 | 28 | 29 => rfl
  | k + 31 =>
    have high : 31 ≤ k + 31 := Nat.le_add_left 31 k
    rw [Setup.plainByte_high _ high, setupByteAfter_high v high below]

theorem Setup.plainByte_keyMask_other {i k : Nat} (small : i < 3) (other : k ≠ i + 1) (v : Byte) (st : Setup) :
    Setup.plainByte { st with keyMask := withKeyByte i v st.keyMask } k = st.plainByte k := by
  have key (j : Nat) (small' : j < 3) (differs : j ≠ i) : keyByte (withKeyByte i v st.keyMask) j = keyByte st.keyMask j := by
    rw [keyByte_withKeyByte small small', if_neg differs]
  unfold Setup.plainByte
  split
  case h_2 => exact key 0 (by decide) (by omega)
  case h_3 => exact key 1 (by decide) (by omega)
  case h_4 => exact key 2 (by decide) (by omega)
  all_goals rfl

theorem Setup.plainByte_trillSet_other {i k : Nat} (small : i < 3) (other : k ≠ i + 4) (v : Byte) (st : Setup) :
    Setup.plainByte { st with trillSet := withKeyByte i v st.trillSet } k = st.plainByte k := by
  have key (j : Nat) (small' : j < 3) (differs : j ≠ i) :
      keyByte (withKeyByte i v st.trillSet) j = keyByte st.trillSet j := by
    rw [keyByte_withKeyByte small small', if_neg differs]
  unfold Setup.plainByte
  split
  case h_5 => exact key 0 (by decide) (by omega)
  case h_6 => exact key 1 (by decide) (by omega)
  case h_7 => exact key 2 (by decide) (by omega)
  all_goals rfl

theorem Setup.plainByte_writePlain_other {off k : Nat} (other : k ≠ off) (v : Byte) (st : Setup) :
    (st.writePlain off v).plainByte k = st.plainByte k := by
  unfold Setup.writePlain
  split
  case h_2 => exact Setup.plainByte_keyMask_other (by decide) other v st
  case h_3 => exact Setup.plainByte_keyMask_other (by decide) other v st
  case h_4 => exact Setup.plainByte_keyMask_other (by decide) other v st
  case h_5 => exact Setup.plainByte_trillSet_other (by decide) other v st
  case h_6 => exact Setup.plainByte_trillSet_other (by decide) other v st
  case h_7 => exact Setup.plainByte_trillSet_other (by decide) other v st
  all_goals
    unfold Setup.plainByte
    split <;> first | rfl | exact absurd rfl other

/-! ### Every byte of a setup (R71, R187) -/

theorem Setup.byte_congr {x y : Setup} {k : Nat}
    (layers : 64 ≤ k ∧ k < 96 → x.layers[layerAt k].byte (k % 8) = y.layers[layerAt k].byte (k % 8))
    (half : ∀ m, x.half m = y.half m) (plain : x.plainByte k = y.plainByte k) : x.byte k = y.byte k := by
  unfold Setup.byte
  rw [half, plain]
  split_ifs with layer
  · exact layers layer
  · rfl

theorem Setup.byte_of_layer {k : Nat} (layer : 64 ≤ k ∧ k < 96) (st : Setup) :
    st.byte k = st.layers[layerAt k].byte (k % 8) := if_pos layer

theorem Setup.byte_of_plain {k : Nat} (below : ¬(64 ≤ k ∧ k < 96)) (st : Setup) (none_ : st.half (evenOffset k) = none) :
    st.byte k = st.plainByte k := by
  unfold Setup.byte
  rw [if_neg below, none_]

theorem setupByteAfter_layer {k : Nat} (layer : 64 ≤ k ∧ k < 96) (v : Byte) :
    setupByteAfter k v = setupByteAfter (64 + k % 8) v := by
  have offset : (64 + k % 8) % 8 = k % 8 := by omega
  unfold setupByteAfter
  dsimp only
  rw [if_pos layer, if_pos (by omega), offset]

theorem layerAt_val {k : Nat} (layer : 64 ≤ k ∧ k < 96) : (layerAt k).val = (k - 64) / 8 := by
  refine Nat.mod_eq_of_lt ?_
  change _ < 4
  omega

theorem layers_set (layers : Vector Layer Config.numLayers) (i j : LayerId) (x : Layer) :
    (layers.set i x)[j] = if j = i then x else layers[j] := by
  rcases eq_or_ne j i with rfl | other
  · simp
  · have vals : i.val ≠ j.val := fun h => other (Fin.ext h.symm)
    simp [other, vals]

theorem Setup.byte_writeByte_other {off k : Nat} (other : k ≠ off) (v : Byte) (st : Setup) :
    (st.writeByte off v).byte k = st.byte k := by
  unfold Setup.writeByte
  split_ifs with layer
  · refine Setup.byte_congr (fun layer' => ?_) (fun _ => rfl) rfl
    dsimp only
    rw [layers_set]
    split_ifs with same
    · have vals : (k - 64) / 8 = (off - 64) / 8 := by rw [← layerAt_val layer', ← layerAt_val layer, same]
      have differs : k % 8 ≠ off % 8 := by omega
      rw [Layer.byte_write (Nat.mod_lt _ (by decide)) (Nat.mod_lt _ (by decide)), if_neg differs]
      simp only [same]
    · rfl
  · exact Setup.byte_congr (fun _ => by rw [Setup.writePlain_layers]) (Setup.writePlain_half off v st)
      (Setup.plainByte_writePlain_other other v st)

theorem Setup.byte_writeByte_same {off : Nat} (v : Byte) (st : Setup) (none_ : st.half (evenOffset off) = none) :
    (st.writeByte off v).byte off = setupByteAfter off v := by
  unfold Setup.writeByte
  split_ifs with layer
  · rw [Setup.byte_of_layer layer, setupByteAfter_layer layer]
    dsimp only
    rw [layers_set, if_pos rfl, Layer.byte_write (Nat.mod_lt _ (by decide)) (Nat.mod_lt _ (by decide)), if_pos rfl]
  · rw [Setup.byte_of_plain layer _ ((Setup.writePlain_half ..).trans none_),
      Setup.plainByte_writePlain_same v st layer]

/-- Settles O51. -/
theorem setupBytesReadBack : Obligations.SetupBytesReadBack := by
  intro n off v s not_low not_high stands
  have none_ : (s.setup n).half (evenOffset off) = none := by
    refine Setup.half_of_not_mem (fun field => ?_) _
    rcases Nat.mod_two_eq_zero_or_one off.val with even | odd
    · exact not_low (evenOffset_even even ▸ field)
    · refine not_high _ field ?_
      unfold evenOffset
      omega
  have written : writeByteAt (setupAddress n off) v s = s.modSetup n (Setup.writeByte off v) := by
    rw [writeByteAt_setup v s (placeOf_setupAddress n off.isLt), writeSetup, none_]
  obtain ⟨t, run, moved, settled⟩ := exec_deskWrite (effect_deskWrite stands v) stands
    (by rw [written]; rfl) (by rw [written]; rfl)
  rw [written] at settled
  have setups (m : SetupId) : t.setup m = (s.modSetup n (Setup.writeByte off v)).setup m := by
    rw [settled]
    rfl
  refine ⟨t, run, moved, ?_, ?_, fun k other => ?_, fun m other => ?_⟩
  · rw [settled_frame settled]
    rfl
  · rw [setups, State.setup_modSetup, if_pos rfl, Setup.byte_writeByte_same v _ none_]
  · rw [setups, State.setup_modSetup, if_pos rfl, Setup.byte_writeByte_other (fun h => other (Fin.ext h))]
  · rw [setups, State.setup_modSetup, if_neg other]

end Sys2Proof.Machine


/-! What a read returns at each place of the desk map. -/

namespace Sys2Proof.Machine

/-! ### Bytes of numbers and flags -/

theorem highByte_natHalf (n : Nat) : highByte (natHalf n) = highOf n := by
  refine BitVec.eq_of_toNat_eq ?_
  rw [highByte, natHalf, highOf, BitVec.extractLsb'_toNat, BitVec.toNat_ofNat, BitVec.toNat_ofNat,
    Nat.shiftRight_eq_div_pow]
  omega

theorem halfByteAt_natHalf (off n : Nat) : halfByteAt off (natHalf n) = BitVec.ofNat 8 (n / 256 ^ (off % 2)) := by
  unfold halfByteAt
  rcases Nat.mod_two_eq_zero_or_one off with even | odd
  · rw [if_pos even, even, lowByte_natHalf, Nat.pow_zero, Nat.div_one]
  · rw [if_neg (by omega), odd, highByte_natHalf, Nat.pow_one]
    rfl

theorem keyByte_eq_keysFrom (k : KeySet) (i : Nat) : keyByte k i = keysFrom k i := by
  refine BitVec.eq_of_toNat_eq ?_
  rw [keyByte, keysFrom, BitVec.extractLsb'_toNat, BitVec.toNat_ofNat, Nat.shiftRight_eq_div_pow, Nat.pow_mul]

theorem flagBits_three : ∀ d l f : Bool, flagBit d 1 ||| flagBit l 2 ||| flagBit f 4 =
    lowOf ((if d then 1 else 0) + (if l then 2 else 0) + (if f then 4 else 0)) := by decide

theorem flagBits_two : ∀ m d : Bool, flagBit m 1 ||| flagBit d 2 =
    lowOf ((if m then 1 else 0) + (if d then 2 else 0)) := by decide

theorem statusB_eq_statusBRead (ps : PlayerState) : ps.statusB = statusBRead ps := by
  have level : ps.evqLevel = true ↔ 2 * ps.threshold + 1 < ps.events.length := decide_eq_true_iff
  have full : ps.evqFull = true ↔ ps.events.length = 32 := decide_eq_true_iff
  rw [PlayerState.statusB, flagBits_three, statusBRead]
  simp only [level, full]

/-! ### Rows by offset -/

/-- A table whose keys do not include the offset has no row for it. -/
theorem lookup_eq_none_of_keys {rows : List (Nat × Byte)} {keys : List Nat} {off : Nat}
    (named : rows.map Prod.fst = keys) (absent : off ∉ keys) : rows.lookup off = none := by
  rw [List.lookup_eq_none_iff]
  intro row present
  have key : row.1 ∈ keys := named ▸ List.mem_map_of_mem present
  simpa using fun same : off = row.1 => absent (same ▸ key)

theorem controlByte_eq {off : Nat} (other : off ≠ 0x18) (s : State) :
    s.controlByte off = ((controlRows s).lookup off).getD 0 := by
  have mode : s.controlByte 9 = if s.intMode = .edge then 1 else 0 := by
    unfold State.controlByte
    cases s.intMode <;> rfl
  have polarity : s.controlByte 10 = if s.intPolarity = .activeHigh then 1 else 0 := by
    unfold State.controlByte
    cases s.intPolarity <;> rfl
  match off with
  | 24 => exact absurd rfl other
  | 9 => exact mode
  | 10 => exact polarity
  | 12 | 14 | 16 | 18 | 20 => exact lowByte_natHalf _
  | 13 | 15 | 17 | 19 | 21 => exact highByte_natHalf _
  | 0 | 1 | 2 | 3 | 4 | 5 | 6 | 7 | 8 | 11 | 22 | 23 | 25 => rfl
  | k + 26 =>
    have absent : (controlRows s).lookup (k + 26) = none := by
      refine lookup_eq_none_of_keys (keys := [0, 1, 2, 3, 9, 10, 11, 12, 13, 14, 15, 16, 17, 18, 19, 20, 21, 25]) rfl ?_
      simp only [List.mem_cons, List.not_mem_nil, or_false, not_or]
      omega
    rw [absent]
    rfl

theorem areaByte_eq {off : Nat} (other : off ≠ 0x16 ∧ off ≠ 0x17 ∧ off ≠ 0x1C ∧ off ≠ 0x1D) (ps : PlayerState) :
    ps.byte off = ((areaRows ps).lookup off).getD 0 := by
  obtain ⟨not_low, not_high, not_a, not_b⟩ := other
  have rate (r : Rate) : natByte r.code = if r = .r1000 then 2 else if r = .r500 then 1 else 0 := by
    cases r <;> rfl
  have link : ps.byte 16 = if ps.link = .lost then 2 else if ps.link = .up then 1 else 0 := by
    unfold PlayerState.byte
    cases ps.link <;> rfl
  have note : ps.byte 26 = (ps.note.map fun n => lowOf n.number).getD 0xFF := by
    unfold PlayerState.byte
    cases ps.note <;> rfl
  have breath : ps.byte 20 = ((areaRows ps).lookup 20).getD 0 := by
    unfold PlayerState.byte areaRows
    cases ps.breath <;> rfl
  match off with
  | 22 => exact absurd rfl not_low
  | 23 => exact absurd rfl not_high
  | 28 => exact absurd rfl not_a
  | 29 => exact absurd rfl not_b
  | 1 | 17 => exact rate _
  | 4 => exact lowByte_natHalf _
  | 5 => exact highByte_natHalf _
  | 16 => exact link
  | 20 => exact breath
  | 26 => exact note
  | 0 | 2 | 3 | 6 | 7 | 8 | 9 | 10 | 11 | 12 | 13 | 14 | 15 | 18 | 19 | 21 | 24 | 25 | 27 => rfl
  | k + 30 =>
    have absent : (areaRows ps).lookup (k + 30) = none := by
      refine lookup_eq_none_of_keys (keys := [0, 1, 2, 3, 4, 5, 6, 8, 9, 16, 17, 18, 19, 20, 24, 25, 26, 27]) rfl ?_
      simp only [List.mem_cons, List.not_mem_nil, or_false, not_or]
      omega
    rw [absent]
    rfl

theorem Override.half_bytes (o : Override) (k : Nat) :
    overrideRows k o = [(k, lowByte o.half), (k + 1, highByte o.half)] := by
  have joined (x y : Byte) : lowByte (x ++ y) = y ∧ highByte (x ++ y) = x := by
    refine ⟨?_, ?_⟩ <;>
    · refine BitVec.eq_of_getLsbD_eq fun i small => ?_
      simp only [lowByte, highByte, BitVec.getLsbD_extractLsb', BitVec.getLsbD_append]
      grind
  cases o with
  | shift x =>
    rw [Override.half, (joined ..).1, (joined ..).2]
    rfl
  | fixed n =>
    rw [Override.half, (joined ..).1, (joined ..).2]
    rfl

/-- The offsets of a setup's bytes, in the order of its rows (R187). -/
def setupKeys : List Nat :=
  [0] ++ [1, 2, 3] ++ [4, 5, 6] ++ [7, 8, 9] ++ [10, 11] ++ [12, 13, 14] ++ [16, 17] ++ [18, 19] ++ [20, 21]
    ++ [22, 23] ++ [24, 25, 26, 27] ++ [28, 29, 30] ++ [32, 33, 34] ++ [35, 36, 37]
    ++ (List.finRange 4).flatMap fun l => (List.range 8).map fun i => 64 + 8 * l.val + i

/-- A setup's byte with its offset. -/
def Setup.row (st : Setup) (off : Nat) : Nat × Byte := (off, st.byte off)

theorem Setup.layerRows_eq (st : Setup) (l : Fin 4) :
    ((List.range 8).map fun i => 64 + 8 * l.val + i).map st.row = layerRows l st.layers[l] := by
  match l with
  | 0 | 1 | 2 | 3 => rfl

/-- The rows of a setup are its bytes at their offsets. -/
theorem setupRows_eq (st : Setup) : setupRows st = setupKeys.map st.row := by
  have masks : [1, 2, 3].map st.row =
      [(1, keysFrom st.keyMask 0), (2, keysFrom st.keyMask 1), (3, keysFrom st.keyMask 2)] := by
    simp only [← keyByte_eq_keysFrom]
    rfl
  have trills : [4, 5, 6].map st.row =
      [(4, keysFrom st.trillSet 0), (5, keysFrom st.trillSet 1), (6, keysFrom st.trillSet 2)] := by
    simp only [← keyByte_eq_keysFrom]
    rfl
  have policy : [10, 11].map st.row = [(10, if st.policy = .silent then (1 : Byte) else 0), (11, lowOf st.baseNote)] := by
    have byte : st.policy.byte = if st.policy = .silent then 1 else 0 := by cases st.policy <;> rfl
    rw [← byte]
    rfl
  have overrides : [16, 17].map st.row = overrideRows 16 st.override1 ∧ [18, 19].map st.row = overrideRows 18 st.override2 ∧
      [20, 21].map st.row = overrideRows 20 st.override3 := by
    simp only [Override.half_bytes]
    exact ⟨rfl, rfl, rfl⟩
  have thresholds : [24, 25, 26, 27].map st.row =
      [(24, lowOf st.onset), (25, highOf st.onset), (26, lowOf st.release), (27, highOf st.release)] := by
    simp only [← highByte_natHalf, lowOf, ← lowByte_natHalf]
    rfl
  have rises : [32, 33, 34].map st.row = [(32, lowOf st.riseStep), (33, highOf st.riseStep), (34, lowOf st.fallStep)] := by
    simp only [← highByte_natHalf, lowOf, ← lowByte_natHalf]
    rfl
  have falls : [35, 36, 37].map st.row =
      [(35, highOf st.fallStep), (36, lowOf st.releaseStep), (37, highOf st.releaseStep)] := by
    simp only [← highByte_natHalf, lowOf, ← lowByte_natHalf]
    rfl
  obtain ⟨first, second, third⟩ := overrides
  unfold setupRows setupKeys
  simp only [List.map_append, List.map_flatMap, Setup.layerRows_eq, masks, trills, policy, first, second, third,
    thresholds, rises, falls]
  rfl

theorem lookup_map_row (st : Setup) {keys : List Nat} {off : Nat} (field : off ∈ keys) :
    (keys.map st.row).lookup off = some (st.byte off) := by
  induction keys with
  | nil => cases field
  | cons k rest ih =>
    rw [List.map_cons, Setup.row, List.lookup_cons]
    rcases eq_or_ne off k with rfl | differs
    · rw [beq_self_eq_true]
    · rw [beq_false_of_ne differs]
      exact ih ((List.mem_cons.1 field).resolve_left differs)

theorem mem_setupKeys_iff (off : Nat) :
    off ∈ setupKeys ↔ off < 15 ∨ 16 ≤ off ∧ off < 31 ∨ 32 ≤ off ∧ off < 38 ∨ 64 ≤ off ∧ off < 96 := by
  have layers : setupKeys = [0] ++ [1, 2, 3] ++ [4, 5, 6] ++ [7, 8, 9] ++ [10, 11] ++ [12, 13, 14] ++ [16, 17] ++ [18, 19]
      ++ [20, 21] ++ [22, 23] ++ [24, 25, 26, 27] ++ [28, 29, 30] ++ [32, 33, 34] ++ [35, 36, 37]
      ++ (List.range 32).map (64 + ·) := rfl
  simp only [layers, List.mem_append, List.mem_cons, List.not_mem_nil, or_false, List.mem_map, List.mem_range]
  constructor
  · rintro (_ | ⟨k, small, rfl⟩) <;> omega
  · intro field
    by_cases layer : 64 ≤ off
    · exact .inr ⟨off - 64, by omega, by omega⟩
    · exact .inl (by omega)

theorem Setup.byte_empty {off : Nat} (empty : 38 ≤ off ∧ off < 64 ∨ 96 ≤ off) (st : Setup) : st.byte off = 0 := by
  have below {k : Nat} (field : k ∈ setupHalfOffsets) : k < 37 := by
    revert k
    decide
  have unheld : evenOffset off ∉ setupHalfOffsets := by
    intro field
    have := below field
    unfold evenOffset at this
    omega
  rw [Setup.byte_of_plain (by omega) st (Setup.half_of_not_mem unheld st), Setup.plainByte_high st (by omega)]

theorem Setup.byte_eq_lookup (off : Nat) (st : Setup) : st.byte off = ((setupRows st).lookup off).getD 0 := by
  rw [setupRows_eq]
  by_cases field : off ∈ setupKeys
  · rw [lookup_map_row st field]
    rfl
  · have keys : (setupKeys.map st.row).map Prod.fst = setupKeys := by
      rw [List.map_map]
      exact List.map_id _
    rw [lookup_eq_none_of_keys keys field]
    rw [mem_setupKeys_iff] at field
    by_cases gap : off = 15 ∨ off = 31
    · rcases gap with rfl | rfl <;> rfl
    · exact Setup.byte_empty (by omega) st

/-! ### Chart entries (R49, R187) -/

theorem flagsByte_eq (e : ChartEntry) : e.flagsByte = lowOf ((if e.valid then 1 else 0) + (if e.learned then 2 else 0)
    + (e.reservation.map fun p => 4 + 8 * p.val).getD 0) := by
  have bits : ∀ (valid learned : Bool) (p : Player),
      (0 : BitVec 3) ++ (BitVec.ofFin p : BitVec 2) ++ BitVec.ofBool true ++ BitVec.ofBool learned ++ BitVec.ofBool valid =
        lowOf ((if valid then 1 else 0) + (if learned then 2 else 0) + (4 + 8 * p.val)) := by decide
  have unreserved : ∀ valid learned : Bool,
      (0 : BitVec 3) ++ (0 : BitVec 2) ++ BitVec.ofBool false ++ BitVec.ofBool learned ++ BitVec.ofBool valid =
        lowOf ((if valid then 1 else 0) + (if learned then 2 else 0) + 0) := by decide
  unfold ChartEntry.flagsByte
  cases e.reservation with
  | none => exact unreserved e.valid e.learned
  | some p => exact bits e.valid e.learned p

theorem entryByte_eq (e : ChartEntry) (b : Fin 8) : e.byte b.val = (entryRows e).getD b.val 0 := by
  match b with
  | 0 => exact keyByte_eq_keysFrom e.pattern 0
  | 1 => exact keyByte_eq_keysFrom e.pattern 1
  | 2 => exact keyByte_eq_keysFrom e.pattern 2
  | 3 => exact keyByte_eq_keysFrom e.care 0
  | 4 => exact keyByte_eq_keysFrom e.care 1
  | 5 => exact keyByte_eq_keysFrom e.care 2
  | 6 => rfl
  | 7 => exact flagsByte_eq e

/-! ### A plain read (R170) -/

/-- The bytes at which a read has an effect, or shows what a transaction has captured (R171, R179, R180). -/
def ReadActs : Place → Prop
  | .window _ => True
  | .area _ off => off = 0x16 ∨ off = 0x17 ∨ off = 0x1C ∨ off = 0x1D
  | .control off => off = 0x18
  | .setup _ _ | .curve _ _ | .chart _ _ _ | .wave _ _ | .unmapped => False

theorem byteAt_eq_plainRead {a : Half} (inert : ¬ReadActs (placeOf a)) (s : State) : s.byteAt a = plainRead s a := by
  have lies := liesAt_placeOf a
  unfold State.byteAt plainRead
  cases place : placeOf a with
  | control off =>
    rw [place] at inert
    exact controlByte_eq inert s
  | area p off =>
    rw [place] at inert
    simp only [ReadActs, not_or] at inert
    exact areaByte_eq inert (s.player p)
  | setup n off => exact Setup.byte_eq_lookup off (s.setup n)
  | curve c off =>
    dsimp only
    rw [halfByteAt_natHalf]
  | chart n e b => exact entryByte_eq (s.entry n e) b
  | wave n off =>
    rw [place] at lies
    have at_ : a.toNat = 8192 + 512 * n.val + off := by
      cases lies
      assumption
    rw [at_]
  | window | unmapped => rfl

end Sys2Proof.Machine


/-! Transactions, plain reads, event windows, status bytes and the breath level. -/

namespace Sys2Proof.Machine

/-! ### The byte a read takes (R170, R171, R179, R180) -/

theorem takeByteAt_plain {a : Half} (inert : ¬ReadActs (placeOf a)) (s : State) : takeByteAt a s = (s, plainRead s a) := by
  rw [← byteAt_eq_plainRead inert]
  unfold takeByteAt
  split <;> simp_all [ReadActs]

theorem takeByteAt_window {a : Half} {p : Player} (place : placeOf a = .window p) (s : State) :
    takeByteAt a s = takeWindowByte p s := by
  unfold takeByteAt
  rw [place]

theorem takeByteAt_low {a : Half} {p : Player} (place : placeOf a = .area p 0x16) (s : State) :
    takeByteAt a s = takeLevelByte p .low s := by
  unfold takeByteAt
  rw [place]
  rfl

theorem takeByteAt_high {a : Half} {p : Player} (place : placeOf a = .area p 0x17) (s : State) :
    takeByteAt a s = takeLevelByte p .high s := by
  unfold takeByteAt
  rw [place]
  rfl

theorem takeByteAt_statusA {a : Half} {p : Player} (place : placeOf a = .area p 0x1C) (s : State) :
    takeByteAt a s = takeStatusByte (.statusA p) s := by
  unfold takeByteAt
  rw [place]
  rfl

theorem takeByteAt_statusB {a : Half} {p : Player} (place : placeOf a = .area p 0x1D) (s : State) :
    takeByteAt a s = takeStatusByte (.statusB p) s := by
  unfold takeByteAt
  rw [place]
  rfl

theorem takeByteAt_global {a : Half} (place : placeOf a = .control 0x18) (s : State) :
    takeByteAt a s = takeStatusByte .global s := by
  unfold takeByteAt
  rw [place]
  rfl

theorem popWindow_eq (p : Player) (s : State) : popWindow p s = s.modPlayer p PlayerState.popped := by
  refine State.modPlayer_congr ?_
  unfold PlayerState.popped
  cases (s.player p).events <;> rfl

theorem takeWindowByte_first {s : State} (first : s.place = 0) (p : Player) :
    takeWindowByte p s = (s.modPlayer p PlayerState.popped, lowOf (s.player p).events.length) := by
  rw [takeWindowByte, if_pos first, popWindow_eq]
  rfl

theorem bufferBytes_getD (ps : PlayerState) (k : Nat) : (bufferBytes ps.window).getD k 0 = ps.windowByte k := by
  unfold PlayerState.windowByte
  cases ps.window with
  | none =>
    rw [bufferBytes, List.getD_eq_getElem?_getD]
    exact List.getElem?_getD_replicate_default_eq ..
  | some e => rfl

theorem takeWindowByte_later {s : State} (later : s.place ≠ 0) (p : Player) :
    takeWindowByte p s = (s, (s.player p).windowByte (s.place - 1)) := by
  rw [takeWindowByte, if_neg later, bufferBytes_getD]

theorem PlayerState.windowByte_past (ps : PlayerState) {k : Nat} (past : 10 ≤ k) : ps.windowByte k = 0 := by
  unfold PlayerState.windowByte
  cases ps.window with
  | none => rfl
  | some e => exact List.getD_eq_default _ _ past

section
variable {s w : State} {x : Transaction} {m : List Byte} (read : x.op = .read)
include read

theorem takeAhead_eq : takeAhead { s with txn := some x, miso := m } =
    (takeByteAt x.addr { s with txn := some x, miso := m }).1.modTxn fun y =>
      { y with out := (takeByteAt x.addr { s with txn := some x, miso := m }).2 } := takeAhead_of_read rfl read

/-- A byte that only reads. -/
theorem settled_takeAhead_plain {out : Byte}
    (takes : takeByteAt x.addr { s with txn := some x, miso := m } = ({ s with txn := some x, miso := m }, out)) :
    settleLine w (takeAhead { s with txn := some x, miso := m }) =
      { s with
        txn := some { x with out := out }, miso := (settleLine w (takeAhead { s with txn := some x, miso := m })).miso
        pulse := (settleLine w (takeAhead { s with txn := some x, miso := m })).pulse
        irqHigh := (settleLine w (takeAhead { s with txn := some x, miso := m })).irqHigh } := by
  rw [takeAhead_eq read, takes]
  rfl

/-- A byte whose read rewrites one player's record. -/
theorem settled_takeAhead_player {out : Byte} {p : Player} {f : PlayerState → PlayerState}
    (takes : takeByteAt x.addr { s with txn := some x, miso := m } =
      (State.modPlayer { s with txn := some x, miso := m } p f, out)) :
    let t := settleLine w (takeAhead { s with txn := some x, miso := m })
    t = { s with
      players := t.players, txn := some { x with out := out }, miso := t.miso, pulse := t.pulse,
      irqHigh := t.irqHigh } ∧ t.player p = f (s.player p) ∧ SameOthers p s t := by
  rw [takeAhead_eq read, takes]
  exact ⟨rfl, State.player_modPlayer_self s p f, fun q other => State.player_modPlayer_other s other f⟩

/-- In a read transaction the byte at the address is taken (R169 to R171, R179, R180). -/
theorem byteTaken_takeAhead : ByteTaken s x (settleLine w (takeAhead { s with txn := some x, miso := m })) := by
  have inert (plain : ¬ReadActs (placeOf x.addr)) := settled_takeAhead_plain (s := s) (w := w) (m := m) read
    (takeByteAt_plain plain _)
  unfold ByteTaken
  dsimp only
  cases place : placeOf x.addr with
  | window p =>
    dsimp only
    split_ifs with first within
    · refine settled_takeAhead_player read ?_
      rw [takeByteAt_window place, takeWindowByte_first (by exact first)]
      rfl
    · refine settled_takeAhead_plain read ?_
      rw [takeByteAt_window place, takeWindowByte_later (by exact first)]
      rfl
    · refine settled_takeAhead_plain read ?_
      have past : 10 ≤ x.count - 1 := by omega
      rw [takeByteAt_window place, takeWindowByte_later (by exact first)]
      exact congrArg (Prod.mk _) (PlayerState.windowByte_past _ past)
  | area p off =>
    dsimp only
    by_cases status_a : off = 0x1C
    · subst status_a
      rw [if_pos rfl]
      refine settled_takeAhead_player (f := PlayerState.readStatusA) read ?_
      rw [takeByteAt_statusA place]
      rfl
    rw [if_neg status_a]
    by_cases status_b : off = 0x1D
    · subst status_b
      rw [if_pos rfl, ← statusB_eq_statusBRead]
      refine settled_takeAhead_player (f := fun ps => { ps with denied := false }) read ?_
      rw [takeByteAt_statusB place]
      rfl
    rw [if_neg status_b]
    by_cases low : off = 0x16
    · subst low
      rw [if_pos rfl, takeAhead_eq read, takeByteAt_low place, takeLevelByte, lowByte_natHalf, highByte_natHalf]
      rfl
    rw [if_neg low]
    by_cases high : off = 0x17
    · subst high
      rw [if_pos rfl]
      refine settled_takeAhead_plain read ?_
      rw [takeByteAt_high place, takeLevelByte, highByte_natHalf]
      rfl
    rw [if_neg high]
    exact inert (by simp [place, ReadActs, status_a, status_b, low, high])
  | control off =>
    dsimp only
    by_cases global : off = 0x18
    · subst global
      rw [if_pos rfl, takeAhead_eq read, takeByteAt_global place, takeStatusByte, ← flagBits_two]
      rfl
    rw [if_neg global]
    exact inert (by simp [place, ReadActs, global])
  | setup | curve | chart | wave | unmapped => exact inert (by simp [place, ReadActs])

end

theorem takeWindowByte_miso (p : Player) (s : State) : (takeWindowByte p s).1.miso = s.miso := by
  unfold takeWindowByte
  split_ifs <;> rfl

theorem takeByteAt_miso (a : Half) (s : State) : (takeByteAt a s).1.miso = s.miso := by
  unfold takeByteAt
  split
  · exact takeWindowByte_miso ..
  all_goals rfl

theorem takeAhead_miso (s : State) : (takeAhead s).miso = s.miso := by
  unfold takeAhead
  split
  · rfl
  · split
    · exact takeByteAt_miso ..
    · rfl
    · rfl

/-! ### Transactions (R169) -/

theorem deskOpOf_of_not_read {op : Byte} (other : op ≠ 0x6B) :
    deskOpOf op = if op = 0x6A then .write else .void := by
  rw [deskOpOf, if_neg other]

theorem beginTransaction_eq {s : State} (idle : s.txn = none) (op : Byte) (a : Half) :
    beginTransaction op a s = takeAhead { s with txn := some (opened (deskOpOf op) a), miso := stageBytes } := by
  unfold beginTransaction
  rw [idle]
  rfl

/-- A byte clocked out of a read transaction (R169, R170). -/
theorem readClocked_of_effect {c : Instr} {s : State} {x : Transaction} (txn : s.txn = some x) (read : x.op = .read)
    (clocks : effect c s = takeAhead (moveOn x.out s)) : ∃ t, exec c s = .next t ∧ ReadClocked s x t := by
  have moved : moveOn x.out s =
      { s with
        txn := some { x with addr := nextAddress x.addr, count := x.count + 1 }, miso := s.miso ++ [x.out] } := by
    rw [moveOn, txn]
    rfl
  rw [moved] at clocks
  exact ⟨_, exec_of_effect clocks, takeAhead_miso _, byteTaken_takeAhead (by exact read)⟩

/-- Settles O53. -/
theorem transactionsBeginAndEnd : Obligations.TransactionsBeginAndEnd := by
  refine fun s => ⟨fun op a idle other => ?_, fun a idle => ?_, ⟨_, exec_of_effect (a := endTransaction s) rfl, rfl⟩,
    fun x a v txn void => ?_, fun x v txn read => ?_⟩
  · have begun : effect (.transactionStart op a) s =
        { s with txn := some (opened (if op = 0x6A then .write else .void) a), miso := stageBytes } := by
      refine (beginTransaction_eq idle op a).trans ?_
      rw [deskOpOf_of_not_read other]
      refine takeAhead_of_write fun y same => ?_
      obtain rfl := Option.some.inj same
      dsimp only [opened]
      split_ifs <;> nofun
    exact ⟨_, exec_of_effect begun, rfl⟩
  · have begun : effect (.transactionStart 0x6B a) s =
        takeAhead { s with txn := some (opened .read a), miso := stageBytes } := beginTransaction_eq idle 0x6B a
    exact ⟨_, exec_of_effect begun, takeAhead_miso _, byteTaken_takeAhead rfl⟩
  · have moved : effect (.deskWrite a v) s = moveOn 0 s := by
      refine (show effect (.deskWrite a v) s = deskByte a v s from rfl).trans ?_
      unfold deskByte
      simp only [txn, void]
    refine ⟨_, exec_of_effect moved, ⟨?_, ?_⟩, ?_⟩
    · rfl
    · rw [if_neg (by simp [txn])]
      rfl
    · rfl
  · refine readClocked_of_effect txn read ?_
    refine (show effect (.deskWrite x.addr v) s = deskByte x.addr v s from rfl).trans ?_
    unfold deskByte
    simp only [txn, read]
    exact deskReadByte_clocks txn read _

/-- A named read where a read transaction stands clocks out the byte taken. -/
theorem readClocked_of_deskReadByte {c : Instr} {s : State} {x : Transaction} {a : Half} {take : State → State × Byte}
    (txn : s.txn = some x) (read : x.op = .read) (stands : x.addr = a) (reads : effect c s = deskReadByte a take s) :
    ∃ t, exec c s = .next t ∧ ReadClocked s x t := by
  subst stands
  exact readClocked_of_effect txn read (reads.trans (deskReadByte_clocks txn read take))

/-! ### Event windows (R179, R185) -/

theorem nextAddress_windowAddress (p : Player) : nextAddress (windowAddress p) = windowAddress p := by
  rw [nextAddress, placeOf_windowAddress]

theorem byteTaken_window {s t : State} {x : Transaction} {p : Player} (window : placeOf x.addr = .window p)
    (taken : ByteTaken s x t) :
    (x.count = 0 → t.txn = some { x with out := lowOf (s.player p).events.length } ∧
      t.player p = (s.player p).popped) ∧
    (x.count ≠ 0 → t = { s with
      txn := some { x with out := if x.count ≤ 10 then (s.player p).windowByte (x.count - 1) else 0 }
      miso := t.miso, pulse := t.pulse, irqHigh := t.irqHigh }) := by
  unfold ByteTaken at taken
  rw [window] at taken
  dsimp only at taken
  refine ⟨fun first => ?_, fun later => ?_⟩
  · rw [if_pos first] at taken
    exact ⟨by rw [taken.1], taken.2.1⟩
  · rwa [if_neg later] at taken

theorem bufferBytes_eq (ps : PlayerState) : bufferBytes ps.window = (List.range 10).map fun k => ps.windowByte k := by
  unfold PlayerState.windowByte
  cases ps.window <;> rfl

/-- Settles O54. -/
theorem eventWindowReads : Obligations.EventWindowReads := by
  refine fun p s => ⟨fun idle => ?_, fun x txn read stands => ?_, fun idle => ?_⟩
  · obtain ⟨-, started, -⟩ := transactionsBeginAndEnd s
    obtain ⟨t, run, -, taken⟩ := started (windowAddress p) idle
    exact ⟨t, run, (byteTaken_window (placeOf_windowAddress p) taken).1 rfl⟩
  · have reads : effect (.eventWindowRead p) s = deskReadByte (windowAddress p) (takeWindowByte p) s :=
      if_neg (by simp [txn])
    obtain ⟨t, run, clocked, taken⟩ := readClocked_of_deskReadByte txn read stands reads
    have window : placeOf (nextAddress x.addr) = .window p := by
      rw [stands, nextAddress_windowAddress, placeOf_windowAddress]
    have kept := (byteTaken_window window taken).2 (Nat.succ_ne_zero _)
    have still : nextAddress x.addr = x.addr := by rw [stands, nextAddress_windowAddress]
    refine ⟨t, run, ?_⟩
    rw [← clocked]
    rw [still] at kept
    exact kept
  · have whole : effect (.eventWindowRead p) s =
        { s.modPlayer p PlayerState.popped with
          miso := [0, 0, 0, BitVec.ofNat 8 (s.player p).events.length] ++
            (List.range 10).map fun k => (s.player p).popped.windowByte k } := by
      refine (if_pos idle).trans ?_
      rw [readWindowWhole, popWindow_eq]
      dsimp only
      rw [bufferBytes_eq, State.player_modPlayer_self]
      rfl
    exact ⟨_, exec_of_effect whole, fun q other => State.player_modPlayer_other s other PlayerState.popped, rfl,
      State.player_modPlayer_self s p PlayerState.popped, rfl⟩

/-! ### Status bytes and the breath level (R171, R180) -/

theorem flagBits_three_bits : ∀ d l f : Bool, let b := flagBit d 1 ||| flagBit l 2 ||| flagBit f 4
    b.getLsbD 0 = d ∧ b.getLsbD 1 = l ∧ b.getLsbD 2 = f ∧ b.toNat < 8 := by decide

theorem flagBits_two_bits : ∀ m d : Bool, let b := flagBit m 1 ||| flagBit d 2
    b.getLsbD 0 = m ∧ b.getLsbD 1 = d ∧ b.toNat < 4 := by decide

theorem lowByte_natHalf_mod (n : Nat) : lowByte (natHalf n) = BitVec.ofNat 8 (n % 256) := by
  rw [lowByte_natHalf]
  refine BitVec.eq_of_toNat_eq ?_
  rw [BitVec.toNat_ofNat, BitVec.toNat_ofNat]
  omega

/-- Settles O55. -/
theorem statusAndLevelReads : Obligations.StatusAndLevelReads := by
  refine ⟨fun s b x txn read stands => readClocked_of_deskReadByte txn read stands rfl,
    fun s p h x txn read stands => readClocked_of_deskReadByte txn read stands rfl,
    fun s idle => ⟨fun p => ?_, fun p => ?_, ?_, fun p => ?_, fun p => ?_⟩⟩
  · have reads : effect (.statusRead (.statusA p)) s =
        { s.modPlayer p PlayerState.readStatusA with miso := [0, 0, 0, (s.player p).statusA] } :=
      deskReadByte_alone idle _ _
    exact ⟨_, exec_of_effect reads, fun q other => State.player_modPlayer_other s other PlayerState.readStatusA, rfl,
      State.player_modPlayer_self s p PlayerState.readStatusA⟩
  · have reads : effect (.statusRead (.statusB p)) s =
        { (s.modPlayer p fun ps => { ps with denied := false }) with miso := [0, 0, 0, (s.player p).statusB] } :=
      deskReadByte_alone idle _ _
    obtain ⟨denied, level, full, small⟩ :=
      flagBits_three_bits (s.player p).denied (s.player p).evqLevel (s.player p).evqFull
    refine ⟨_, exec_of_effect reads, ⟨_, rfl, denied, ?_, ?_, small⟩,
      fun q other => State.player_modPlayer_other s other fun ps => { ps with denied := false }, rfl,
      State.player_modPlayer_self s p fun ps => { ps with denied := false }⟩
    · exact (Bool.eq_iff_iff.1 level).trans decide_eq_true_iff
    · exact (Bool.eq_iff_iff.1 full).trans decide_eq_true_iff
  · have reads : effect (.statusRead .global) s =
        { s with clipMain := false, clipDirect := false, miso := [0, 0, 0, s.globalStatus] } :=
      deskReadByte_alone idle _ _
    obtain ⟨main, direct, small⟩ := flagBits_two_bits s.clipMain s.clipDirect
    exact ⟨_, exec_of_effect reads, ⟨_, rfl, main, direct, small⟩, rfl⟩
  · have reads : effect (.breathLevelRead p .low) s =
        { s with miso := [0, 0, 0, BitVec.ofNat 8 ((s.player p).level % 256)] } := by
      refine (deskReadByte_alone idle _ _).trans ?_
      rw [takeLevelByte, lowByte_natHalf_mod, State.modTxn, idle, Option.map_none, ← idle]
    exact ⟨_, exec_of_effect reads, rfl⟩
  · have reads : effect (.breathLevelRead p .high) s =
        { s with miso := [0, 0, 0, BitVec.ofNat 8 ((s.player p).level / 256)] } := by
      refine (deskReadByte_alone idle _ _).trans ?_
      have captured : s.captured = none := by rw [State.captured, idle]
      rw [takeLevelByte, captured, highByte_natHalf]
      rfl
    exact ⟨_, exec_of_effect reads, rfl⟩

end Sys2Proof.Machine


/-! The stages of a sense frame: what it tells, the record it leaves and what it makes of the rest of the part. -/

namespace Sys2Proof.Machine

/-! ### A record with what it is told (R162, R177) -/

/-- A player's record once event records and replies have been queued. -/
def PlayerState.telling (ps : PlayerState) (records : List EventRecord) (replies : List Reply) : PlayerState :=
  (ps.queuedAll records).placedAll replies

section
variable (ps : PlayerState) (records more : List EventRecord) (replies later : List Reply)

theorem PlayerState.placedAll_queuedAll : (ps.placedAll replies).queuedAll records = ps.telling records replies := by
  unfold PlayerState.telling
  induction replies generalizing ps with
  | nil => rfl
  | cons r rest ih =>
    change ((ps.placed r).placedAll rest).queuedAll records = ((ps.queuedAll records).placed r).placedAll rest
    rw [ih, PlayerState.placed_queuedAll]

theorem PlayerState.telling_queuedAll :
    (ps.telling records replies).queuedAll more = ps.telling (records ++ more) replies := by
  rw [telling, placedAll_queuedAll, telling, telling, queuedAll_append]

theorem PlayerState.telling_placedAll :
    (ps.telling records replies).placedAll later = ps.telling records (replies ++ later) :=
  (List.foldl_append ..).symm

theorem PlayerState.learnPlaced_eq_placedAll (learn : Option LearnRecord) (result : LearnResult) :
    ps.learnPlaced learn result =
      ps.placedAll (learn.toList.map fun r => .learnResult r.slot.val result r.entry.val) := by
  cases learn <;> rfl

/-- Placing a reply reads and writes the replies and status A alone. -/
theorem PlayerState.placed_update (g : PlayerState → PlayerState)
    (keeps : ∀ x rs st, g { x with replies := rs, statusA := st } = { g x with replies := rs, statusA := st })
    (r : Reply) : (g ps).placed r = g (ps.placed r) := by
  have kept := keeps ps ps.replies ps.statusA
  have waiting : (g ps).replies = ps.replies := by
    have h := congrArg PlayerState.replies kept
    exact h
  have flags : (g ps).statusA = ps.statusA := by
    have h := congrArg PlayerState.statusA kept
    exact h
  rcases ps.placed_cases r with ⟨room, eq⟩ | ⟨full, eq⟩
  · rw [eq, keeps ps (ps.replies ++ [r]) ps.statusA, PlayerState.placed, if_pos (by rw [waiting]; exact room), waiting,
      ← flags]
  · rw [eq, keeps ps ps.replies (ps.statusA ||| rpqOverflow), PlayerState.placed,
      if_neg (by rw [waiting]; exact Nat.not_lt.2 full), flags, ← waiting]

theorem PlayerState.placedAll_update (g : PlayerState → PlayerState)
    (keeps : ∀ x rs st, g { x with replies := rs, statusA := st } = { g x with replies := rs, statusA := st }) :
    (g ps).placedAll replies = g (ps.placedAll replies) := by
  unfold PlayerState.placedAll
  induction replies generalizing ps with
  | nil => rfl
  | cons r rest ih => rw [List.foldl_cons, List.foldl_cons, PlayerState.placed_update ps g keeps, ih]

/-- An update that leaves events, replies and status A alone goes past what is told. -/
theorem PlayerState.telling_update (g : PlayerState → PlayerState)
    (queues : ∀ x ev st, g { x with events := ev, statusA := st } = { g x with events := ev, statusA := st })
    (waits : ∀ x rs st, g { x with replies := rs, statusA := st } = { g x with replies := rs, statusA := st }) :
    g (ps.telling records replies) = (g ps).telling records replies := by
  rw [PlayerState.telling, PlayerState.telling, PlayerState.queuedAll_update _ g queues,
    PlayerState.placedAll_update _ _ g waits]

/-- A field that neither queue nor status A holds is what it was before the telling. -/
theorem PlayerState.telling_keeps {α : Type} (field : PlayerState → α)
    (queued : ∀ x e, field (PlayerState.queued x e) = field x) (placed : ∀ x r, field (PlayerState.placed x r) = field x) :
    field (ps.telling records replies) = field ps :=
  (foldl_keeps field _ placed replies _).trans (PlayerState.queuedAll_keeps field queued ps records)

@[simp] theorem PlayerState.telling_breath : (ps.telling records replies).breath = ps.breath :=
  PlayerState.telling_keeps _ _ _ _ PlayerState.queued_breath PlayerState.placed_breath
@[simp] theorem PlayerState.telling_note : (ps.telling records replies).note = ps.note :=
  PlayerState.telling_keeps _ _ _ _ PlayerState.queued_note PlayerState.placed_note
@[simp] theorem PlayerState.telling_tagCounter : (ps.telling records replies).tagCounter = ps.tagCounter :=
  PlayerState.telling_keeps _ _ _ _ PlayerState.queued_tagCounter PlayerState.placed_tagCounter
@[simp] theorem PlayerState.telling_held : (ps.telling records replies).held = ps.held :=
  PlayerState.telling_keeps _ _ _ _ PlayerState.queued_held PlayerState.placed_held
@[simp] theorem PlayerState.telling_latch : (ps.telling records replies).latch = ps.latch :=
  PlayerState.telling_keeps _ _ _ _ PlayerState.queued_latch PlayerState.placed_latch
@[simp] theorem PlayerState.telling_latchSeen : (ps.telling records replies).latchSeen = ps.latchSeen :=
  PlayerState.telling_keeps _ _ _ _ PlayerState.queued_latchSeen PlayerState.placed_latchSeen
@[simp] theorem PlayerState.telling_learn : (ps.telling records replies).learn = ps.learn :=
  PlayerState.telling_keeps _ _ _ _ PlayerState.queued_learn PlayerState.placed_learn
@[simp] theorem PlayerState.telling_selected : (ps.telling records replies).selected = ps.selected :=
  PlayerState.telling_keeps _ _ _ _ PlayerState.queued_selected PlayerState.placed_selected
@[simp] theorem PlayerState.telling_active : (ps.telling records replies).active = ps.active :=
  PlayerState.telling_keeps _ _ _ _ PlayerState.queued_active PlayerState.placed_active
@[simp] theorem PlayerState.telling_zeroOffset : (ps.telling records replies).zeroOffset = ps.zeroOffset :=
  PlayerState.telling_keeps _ _ _ _ PlayerState.queued_zeroOffset PlayerState.placed_zeroOffset
@[simp] theorem PlayerState.telling_capturePending :
    (ps.telling records replies).capturePending = ps.capturePending :=
  PlayerState.telling_keeps _ _ _ _ PlayerState.queued_capturePending PlayerState.placed_capturePending
@[simp] theorem PlayerState.telling_accepted : (ps.telling records replies).accepted = ps.accepted :=
  PlayerState.telling_keeps _ _ _ _ PlayerState.queued_accepted PlayerState.placed_accepted
@[simp] theorem PlayerState.telling_trill : (ps.telling records replies).trill = ps.trill :=
  PlayerState.telling_keeps _ _ _ _ PlayerState.queued_trill PlayerState.placed_trill
@[simp] theorem PlayerState.telling_bend : (ps.telling records replies).bend = ps.bend :=
  PlayerState.telling_keeps _ _ _ _ PlayerState.queued_bend PlayerState.placed_bend
@[simp] theorem PlayerState.telling_ceiling : (ps.telling records replies).ceiling = ps.ceiling :=
  PlayerState.telling_keeps _ _ _ _ PlayerState.queued_ceiling PlayerState.placed_ceiling
@[simp] theorem PlayerState.telling_denied : (ps.telling records replies).denied = ps.denied :=
  PlayerState.telling_keeps _ _ _ _ PlayerState.queued_denied PlayerState.placed_denied

end

theorem PlayerState.placedAll_events (ps : PlayerState) (replies : List Reply) :
    (ps.placedAll replies).events = ps.events :=
  foldl_keeps PlayerState.events PlayerState.placed PlayerState.placed_events replies ps

theorem PlayerState.placedAll_replies_congr {a b : PlayerState} (waiting : a.replies = b.replies) (l : List Reply) :
    (a.placedAll l).replies = (b.placedAll l).replies := by
  unfold PlayerState.placedAll
  induction l generalizing a b with
  | nil => exact waiting
  | cons r l ih => exact ih (by rw [placed_replies, placed_replies, waiting])

theorem PlayerState.placedAll_statusA_congr {a b : PlayerState} (waiting : a.replies = b.replies)
    (flags : a.statusA = b.statusA) (l : List Reply) : (a.placedAll l).statusA = (b.placedAll l).statusA := by
  unfold PlayerState.placedAll
  induction l generalizing a b with
  | nil => exact flags
  | cons r l ih =>
    exact ih (by rw [placed_replies, placed_replies, waiting]) (by rw [placed_statusA, placed_statusA, waiting, flags])

/-- A record that tells from the queues a frame finds tells what the frame reports (R156, R162, R177). -/
theorem tells_of_telling {s t : State} {p : Player} {f : FrameBody} {ps : PlayerState} {records : List EventRecord}
    {replies : List Reply} (player : t.player p = ps.telling records replies) (queue : ps.events = (s.player p).events)
    (waiting : ps.replies = (s.player p).replies) (flags : ps.statusA = statusAfterSeq (s.player p) f.seq)
    (denied : ps.denied = (s.player p).denied) : Tells s p f records replies t where
  queue := by
    rw [player, PlayerState.telling, PlayerState.placedAll_events]
    exact PlayerState.queuedAll_events_congr queue records
  waiting := by
    rw [player, PlayerState.telling]
    exact PlayerState.placedAll_replies_congr (by rw [PlayerState.queuedAll_replies, waiting]) replies
  flags := by
    rw [player, PlayerState.telling]
    exact PlayerState.placedAll_statusA_congr (b := PlayerState.queuedAll
        { s.player p with statusA := statusAfterSeq (s.player p) f.seq } records)
      (by rw [PlayerState.queuedAll_replies, PlayerState.queuedAll_replies, waiting])
      (PlayerState.queuedAll_statusA_congr (b := { s.player p with statusA := statusAfterSeq (s.player p) f.seq })
        queue flags records) replies
  denied := by rw [player, PlayerState.telling_denied, denied]

end Sys2Proof.Machine


/-! Accounts of a frame: what its stages have made of the part, said of one player's record, the voices and the chart
entries. -/

namespace Sys2Proof.Machine

/-! ### Changes that the free queue does not see -/

/-- Only voices, the players' records and the chart store change: free queue and stamps stand. -/
def PoolStands (s t : State) : Prop := t = { s with voices := t.voices, players := t.players, charts := t.charts }

theorem PoolStands.trans {s t u : State} (h : PoolStands s t) (k : PoolStands t u) : PoolStands s u := by
  unfold PoolStands at *
  rw [k, h]

theorem PoolStands.of_voices {s t : State} (h : t = { s with voices := t.voices, players := t.players }) :
    PoolStands s t := by
  unfold PoolStands
  rw [h]

theorem PoolStands.sampleCount {s t : State} (h : PoolStands s t) : t.sampleCount = s.sampleCount := by
  rw [PoolStands] at h
  rw [h]

theorem PoolStands.setup {s t : State} (h : PoolStands s t) (n : SetupId) : t.setup n = s.setup n := by
  rw [PoolStands] at h
  rw [h, State.setup, State.setup]

theorem PoolStands.curves {s t : State} (h : PoolStands s t) : t.curves = s.curves := by
  rw [PoolStands] at h
  rw [h]

theorem PoolStands.pool {s t : State} (h : PoolStands s t) :
    t.freeQueue = s.freeQueue ∧ t.stampCounter = s.stampCounter := by
  rw [PoolStands] at h
  rw [h]
  exact ⟨rfl, rfl⟩

theorem PoolStands.applySetup (p : Player) (s : State) : PoolStands s (applySetup p s) := by
  unfold PoolStands
  rw [applySetup_eq]

/-! ### Accounts -/

/-- What a frame has made of the part so far: the voices, the chart entries, its player's record and what it has told
that player's queues. -/
structure Account where
  voice : VoiceId → Voice
  entry : ChartSlot → EntryId → ChartEntry
  record : PlayerState
  records : List EventRecord
  replies : List Reply

/-- The account of a state in which the frame of `p` has done nothing yet. -/
def Account.of (s : State) (p : Player) : Account :=
  { voice := s.voice, entry := s.entry, record := s.player p, records := [], replies := [] }

/-- The account holds of what the frame of `p` has made of `s`. -/
structure Account.Holds (a : Account) (s : State) (p : Player) (t : State) : Prop where
  frame : PoolStands s t
  voices : ∀ v, t.voice v = a.voice v
  entries : ∀ n e, t.entry n e = a.entry n e
  player : t.player p = a.record.telling a.records a.replies
  others : SameOthers p s t

/-- An update of a record that neither reads nor writes the queues and status A. -/
structure LeavesQueues (g : PlayerState → PlayerState) : Prop where
  events : ∀ x ev st, g { x with events := ev, statusA := st } = { g x with events := ev, statusA := st }
  replies : ∀ x rs st, g { x with replies := rs, statusA := st } = { g x with replies := rs, statusA := st }

/-- The frame updates its player's record. -/
def Account.update (g : PlayerState → PlayerState) (a : Account) : Account := { a with record := g a.record }

/-- The frame ends the note that its player has in `s` (R89). -/
def Account.ended (s : State) (p : Player) (reason : OffReason) (a : Account) : Account :=
  { a with
    voice := fun v => endedVoice (s.player p) v (a.voice v), record := { a.record with note := none },
    records := a.records ++ noteOffRecords s p reason.code }

/-- The frame clears the stack that its player has in `s` (R112). -/
def Account.cleared (s : State) (p : Player) (a : Account) : Account :=
  { a with
    voice := fun v => unlatchedVoice (s.player p) v (a.voice v), record := { a.record with latch := [] },
    records := a.records ++ latchClearRecords s p 1 }

/-- The frame applies its selection, and cancels the learn that its player has in `s` (R21, R22, R58). -/
def Account.applied (s : State) (p : Player) (f : FrameBody) (a : Account) : Account :=
  { voice := a.voice
    entry := fun n e => if (s.player p).learns n e then { a.entry n e with reservation := none } else a.entry n e
    record := { a.record with active := (senseFields f).setup, learn := none }
    records := a.records ++ changeRecords s p f
    replies := a.replies ++ cancelledReplies s p }

namespace Account.Holds
variable {a : Account} {s t : State} {p : Player} (h : a.Holds s p t)
include h

theorem sampleCount : t.sampleCount = s.sampleCount := PoolStands.sampleCount h.frame

theorem activeSetup : t.activeSetup p = s.setup a.record.active := by
  rw [State.activeSetup, h.player, PlayerState.telling_active, PoolStands.setup h.frame]

theorem modPlayer {g : PlayerState → PlayerState} (leaves : LeavesQueues g) :
    (a.update g).Holds s p (t.modPlayer p g) where
  frame := h.frame.trans rfl
  voices := h.voices
  entries := h.entries
  player := by
    rw [State.player_modPlayer_self, h.player]
    exact PlayerState.telling_update _ _ _ g leaves.events leaves.replies
  others q other := (State.player_modPlayer_other _ other _).trans (h.others q other)

theorem offDecision (note : a.record.note = (s.player p).note) (reason : OffReason) :
    (a.ended s p reason).Holds s p (offDecision p reason t) where
  frame := h.frame.trans (.of_voices (offDecision_eq ..))
  voices v := by
    rw [offDecision_voice, h.voices]
    exact endedVoice_congr (by rw [h.player, PlayerState.telling_note, note]) ..
  entries n e := (offDecision_entry ..).trans (h.entries n e)
  player := by
    have current : (t.player p).note = (s.player p).note := by rw [h.player, PlayerState.telling_note, note]
    rw [offDecision_player, if_pos rfl, noteOffRecords_congr current h.sampleCount, h.player,
      PlayerState.telling_update _ _ _ (fun ps => { ps with note := none }) (fun _ _ _ => rfl) fun _ _ _ => rfl,
      PlayerState.telling_queuedAll]
    rfl
  others q other := by rw [offDecision_player, if_neg other, h.others q other]

theorem clearStack (latch : a.record.latch = (s.player p).latch) :
    (a.cleared s p).Holds s p (clearStack p 1 t) where
  frame := h.frame.trans (.of_voices (clearStack_eq ..))
  voices v := by
    rw [clearStack_voice, h.voices]
    exact unlatchedVoice_congr (by rw [h.player, PlayerState.telling_latch, latch]) ..
  entries n e := (clearStack_entry ..).trans (h.entries n e)
  player := by
    have stack : (t.player p).latch = (s.player p).latch := by rw [h.player, PlayerState.telling_latch, latch]
    rw [clearStack_player, if_pos rfl, latchClearRecords_congr stack h.sampleCount, h.player,
      PlayerState.telling_update _ _ _ (fun ps => { ps with latch := [] }) (fun _ _ _ => rfl) fun _ _ _ => rfl,
      PlayerState.telling_queuedAll]
    rfl
  others q other := by rw [clearStack_player, if_neg other, h.others q other]

theorem applySetup {f : FrameBody} (selected : a.record.selected = (senseFields f).setup)
    (learn : a.record.learn = (s.player p).learn) : (a.applied s p f).Holds s p (applySetup p t) where
  frame := h.frame.trans (.applySetup ..)
  voices v := (applySetup_voice ..).trans (h.voices v)
  entries n e := by
    have names : (t.player p).learns n e = (s.player p).learns n e := by
      rw [PlayerState.learns, h.player, PlayerState.telling_learn, learn, PlayerState.learns]
    rw [applySetup_entry, names, h.entries]
    rfl
  player := by
    have pending : (t.player p).learn = (s.player p).learn := by rw [h.player, PlayerState.telling_learn, learn]
    have chosen : (t.player p).selected = (senseFields f).setup := by
      rw [h.player, PlayerState.telling_selected, selected]
    have records : recordOf t .setupApplied 0 0 0 (senseFields f).setup.val :: learnEndedRecords t p 6 =
        changeRecords s p f := by
      rw [learnEndedRecords_congr pending h.sampleCount, recordOf, h.sampleCount]
      rfl
    have replies : ((s.player p).learn.toList.map fun r => Reply.learnResult r.slot.val .cancelled r.entry.val) =
        cancelledReplies s p := by
      rw [cancelledReplies]
      cases (s.player p).learn <;> rfl
    rw [applySetup_player, if_pos rfl, chosen, pending, records, PlayerState.learnPlaced_eq_placedAll, replies, h.player,
      PlayerState.telling_update _ _ _ (fun ps => { ps with active := (senseFields f).setup, learn := none })
        (fun _ _ _ => rfl) fun _ _ _ => rfl,
      PlayerState.telling_queuedAll, PlayerState.telling_placedAll]
    rfl
  others q other := by rw [applySetup_player, if_neg other, h.others q other]

end Account.Holds

end Sys2Proof.Machine


/-! The stages of an accepted sense frame of an UP or LOST link, as accounts. -/

namespace Sys2Proof.Machine

/-! ### The receiver and the setup select (R21, R155 to R157) -/

/-- The LINK_UP of a link that a frame finds LOST (R157). -/
def recoveredRecords (s : State) (p : Player) : List EventRecord :=
  if (s.player p).link = .lost then [recordOf s .linkUp 0 (s.player p).keyCount 0 2] else []

/-- A player's record once the receiver has taken a frame (R155, R156). -/
def PlayerState.linked (f : FrameBody) (ps : PlayerState) : PlayerState :=
  { ps with
    received := none, link := .up, silence := some 0, seqRef := some f.seq, statusA := statusAfterSeq ps f.seq }

/-- A player's frame selection is taken down (R21). -/
def PlayerState.select (f : FrameBody) (ps : PlayerState) : PlayerState := { ps with selected := (senseFields f).setup }

/-- The account of a frame once its receiver has taken it. -/
def linkedAccount (s : State) (p : Player) (f : FrameBody) : Account :=
  { Account.of s p with record := (s.player p).linked f, records := recoveredRecords s p }

/-- The account of a frame once its setup has been selected. -/
def startedAccount (s : State) (p : Player) (f : FrameBody) : Account :=
  let a := (linkedAccount s p f).update (PlayerState.select f)
  if changesAtStart s p f then a.applied s p f else a

section
variable {s : State} {p : Player} {f : FrameBody}

theorem statusAfterSeq_of_not_up (not_up : (s.player p).link ≠ .up) (seq : BitVec 4) :
    statusAfterSeq (s.player p) seq = (s.player p).statusA := by
  simp [statusAfterSeq, seqGapFails, not_up]

/-- The event of a frame of an UP or LOST link, over the part as its receiver leaves it. -/
theorem takeSense_of_linked (linked : (s.player p).link = .up ∨ (s.player p).link = .lost) :
    ∃ a, takeSense p f (clearReceived p s) = acceptSense p f.seq (senseFields f) a ∧
      (linkedAccount s p f).Holds s p (a.modPlayer p fun ps => { ps with silence := some 0 }) := by
  rcases linked with up | lost
  · refine ⟨checkSequence p f.seq (clearReceived p s), ?_, ?_⟩
    · simp only [takeSense, clearReceived_player, up]
    · rw [checkSequence_clearReceived up, State.modPlayer_modPlayer]
      refine ⟨rfl, fun _ => rfl, fun _ _ => rfl, ?_, fun q other => State.player_modPlayer_other _ other _⟩
      rw [State.player_modPlayer_self]
      simp only [linkedAccount, recoveredRecords, up, PlayerState.linked, Function.comp, reduceCtorEq, if_false]
      rfl
  · refine ⟨bringUp p 2 f.seq (clearReceived p s), ?_, ?_⟩
    · simp only [takeSense, clearReceived_player, lost]
    · have brought : ((bringUp p 2 f.seq (clearReceived p s)).modPlayer p fun ps => { ps with silence := some 0 }) =
          s.modPlayer p fun ps => { ({ ps with
            received := none, link := .up, silence := some 0, seqRef := some f.seq } : PlayerState).queued
              (recordOf s .linkUp 0 (s.player p).keyCount 0 2) with silence := some 0 } := by
        rw [bringUp, clearReceived_player, report_eq_modPlayer, clearReceived]
        simp only [State.modPlayer_modPlayer]
        rfl
      rw [brought]
      refine ⟨rfl, fun _ => rfl, fun _ _ => rfl, ?_, fun q other => State.player_modPlayer_other _ other _⟩
      rw [State.player_modPlayer_self, ← PlayerState.queued_update _ (fun ps => { ps with silence := some 0 })
        fun _ _ _ => rfl]
      have flags := statusAfterSeq_of_not_up (p := p) (s := s) (by simp [lost]) f.seq
      simp only [linkedAccount, recoveredRecords, lost, PlayerState.linked, flags, if_true]
      rfl

theorem Account.Holds.selectSetup {t : State} (h : (linkedAccount s p f).Holds s p t) :
    (startedAccount s p f).Holds s p (selectSetup p (senseFields f).setup t) := by
  have breath : (t.player p).breath = (s.player p).breath := by rw [h.player, PlayerState.telling_breath]; rfl
  have active : (t.player p).active = (s.player p).active := by rw [h.player, PlayerState.telling_active]; rfl
  have chosen : ((linkedAccount s p f).update (PlayerState.select f)).Holds s p
      (t.modPlayer p (PlayerState.select f)) := h.modPlayer ⟨fun _ _ _ => rfl, fun _ _ _ => rfl⟩
  have applied := chosen.applySetup (f := f) rfl rfl
  have waits : changesAtStart s p f = false → (startedAccount s p f).Holds s p
      (t.modPlayer p (PlayerState.select f)) := fun waits => by rwa [startedAccount, waits]
  have atOnce (calm : ((s.player p).breath = .quiet || (s.player p).breath = .muted) = true) :
      (startedAccount s p f).Holds s p (if (senseFields f).setup = (s.player p).active then
          t.modPlayer p (PlayerState.select f)
        else Machine.applySetup p (t.modPlayer p (PlayerState.select f))) := by
    split
    next same => exact waits (by simp [changesAtStart, same])
    next other =>
      have changes : changesAtStart s p f = true := by
        rw [changesAtStart, calm, Bool.and_true]
        exact decide_eq_true (Ne.symm other)
      rwa [startedAccount, changes]
  unfold Machine.selectSetup
  rw [breath, active]
  cases state : (s.player p).breath with
  | quiet => exact atOnce (by simp [state])
  | muted => exact atOnce (by simp [state])
  | pending k => exact waits (by simp [changesAtStart, state])
  | breathing => exact waits (by simp [changesAtStart, state])

theorem startedAccount_record : (startedAccount s p f).record =
    { (s.player p).linked f with
      selected := (senseFields f).setup, active := frameSetup (s.player p) (senseFields f)
      learn := if changesAtStart s p f then none else (s.player p).learn } := by
  unfold startedAccount
  split
  next changes =>
    have calm : (s.player p).breath = .quiet ∨ (s.player p).breath = .muted := by simp_all [changesAtStart]
    have taken : frameSetup (s.player p) (senseFields f) = (senseFields f).setup := by
      rcases calm with quiet | muted
      · simp only [frameSetup, quiet]
      · simp only [frameSetup, muted]
    rw [taken]
    rfl
  next waits =>
    have kept : frameSetup (s.player p) (senseFields f) = (s.player p).active := by
      unfold frameSetup
      cases state : (s.player p).breath <;> simp_all [changesAtStart]
    rw [kept]
    rfl

theorem startedAccount_voice : (startedAccount s p f).voice = s.voice := by
  unfold startedAccount
  split <;> rfl

theorem startedAccount_entry (n : ChartSlot) (e : EntryId) : (startedAccount s p f).entry n e =
    if changesAtStart s p f ∧ (s.player p).learns n e then { s.entry n e with reservation := none } else s.entry n e := by
  unfold startedAccount
  split <;> simp_all [Account.applied, linkedAccount, Account.update, Account.of]

theorem startedAccount_records : (startedAccount s p f).records =
    recoveredRecords s p ++ if changesAtStart s p f then changeRecords s p f else [] := by
  unfold startedAccount
  split
  · rfl
  · exact (List.append_nil _).symm

theorem startedAccount_replies : (startedAccount s p f).replies =
    if changesAtStart s p f then cancelledReplies s p else [] := by
  unfold startedAccount
  split <;> rfl

end

/-! ### Breath front end and resolver (R5 to R9, R15, R16, R20 to R30, R40) -/

theorem breathStep_fst (st : Setup) (n : Nat) (b : BreathState) : (breathStep st n b).1 = breathAfter st n b := by
  unfold breathStep breathAfter
  cases b with
  | quiet => dsimp only; split <;> rfl
  | pending k =>
    dsimp only
    by_cases calm : n < st.onset
    · rw [if_neg (Nat.not_le.2 calm), if_pos calm]
    · rw [if_pos (Nat.not_lt.1 calm), if_neg calm]
      simp only [show 3 ≤ k + 1 ↔ 2 ≤ k by omega]
      split <;> rfl
  | breathing => dsimp only; rw [effectiveRelease_eq]; split <;> rfl
  | muted => dsimp only; rw [effectiveRelease_eq]; split <;> rfl

theorem breathStep_onset_iff (st : Setup) (n : Nat) (b : BreathState) :
    (breathStep st n b).2 = .onset ↔ Onset st n b := by
  rw [Onset, ← breathStep_fst]
  unfold breathStep
  cases b with
  | quiet | breathing | muted => dsimp only; split <;> simp
  | pending k => dsimp only; split_ifs <;> simp

/-- What front end and resolver make of a player's record on a frame, under the setup in force for it. -/
def PlayerState.hears (st : Setup) (curves : Vector Curve Config.numCurves) (x : SenseFields) (ps : PlayerState) :
    PlayerState :=
  let net := ps.netPressure x.breath.toNat
  let keys := x.keys &&& st.keyMask
  { ps with
    zeroOffset := ps.frameZero x.breath.toNat, capturePending := false, breath := breathAfter st net ps.breath,
    level := smooth st.smoothing ps.level (curveLevel curves[st.curve] net),
    candidate := keys, settleCount := settleAfter ps keys,
    accepted :=
      if (breathStep st net ps.breath).2 = .onset ∨ st.settleWindow ≤ settleAfter ps keys then keys else ps.accepted,
    trill := trillAfter st ps.trillSeen x.trill ps.trill, trillSeen := x.trill, bend := bendAfter st x.bite.toNat }

theorem PlayerState.hears_leavesQueues (st : Setup) (curves : Vector Curve Config.numCurves) (x : SenseFields) :
    LeavesQueues (PlayerState.hears st curves x) := ⟨fun _ _ _ => rfl, fun _ _ _ => rfl⟩

theorem frontEnd_activeSetup (p : Player) (raw : Nat) (s : State) : (frontEnd p raw s).activeSetup p = s.activeSetup p :=
  State.modPlayer_activeSetup _ _ _ _ rfl

theorem keyStages_activeSetup (p : Player) (x : SenseFields) (onset : Bool) (s : State) :
    (keyStages p x onset s).activeSetup p = s.activeSetup p := State.modPlayer_activeSetup _ _ _ _ rfl

/-- A frame is heard by its player's record alone, but for the learn that an onset completes. -/
theorem bendStage_keyStages {p : Player} {x : SenseFields} {s : State} (onset : Bool)
    (report : onset = true ↔ breathReport p x.breath.toNat s = .onset) :
    bendStage p x.bite (keyStages p x onset (frontEnd p x.breath.toNat s)) =
      s.modPlayer p (PlayerState.hears (s.activeSetup p) s.curves x) := by
  rw [bendStage, keyStages_activeSetup, keyStages, frontEnd_activeSetup, frontEnd]
  simp only [State.modPlayer_modPlayer, trillFrame_eq, settle_eq, report]
  refine State.modPlayer_congr ?_
  simp only [Function.comp, PlayerState.hears, breathStep_fst]
  rfl

theorem resolverStages_frontEnd {p : Player} {x : SenseFields} {s : State}
    (silent : breathReport p x.breath.toNat s ≠ .onset) :
    resolverStages p x (breathReport p x.breath.toNat s) (frontEnd p x.breath.toNat s) =
      s.modPlayer p (PlayerState.hears (s.activeSetup p) s.curves x) := by
  rw [← bendStage_keyStages false (by simp [silent]), resolverStages, if_neg silent, decide_eq_false silent]

/-- The account of a frame as its note decision finds it, where it completes no learn. -/
def heardAccount (s : State) (p : Player) (f : FrameBody) : Account :=
  (startedAccount s p f).update
    (PlayerState.hears (s.setup (frameSetup (s.player p) (senseFields f))) s.curves (senseFields f))

section
variable {s : State} {p : Player} {f : FrameBody} {a : State}
  (h : (linkedAccount s p f).Holds s p (a.modPlayer p fun ps => { ps with silence := some 0 }))
include h

theorem Account.Holds.frameSelected : (startedAccount s p f).Holds s p (frameSelected p (senseFields f) a) :=
  Account.Holds.selectSetup h

theorem frameSelected_activeSetup :
    (frameSelected p (senseFields f) a).activeSetup p = s.setup (frameSetup (s.player p) (senseFields f)) := by
  rw [h.frameSelected.activeSetup, startedAccount_record]

theorem frameSelected_breath : ((frameSelected p (senseFields f) a).player p).breath = (s.player p).breath := by
  rw [h.frameSelected.player, PlayerState.telling_breath, startedAccount_record]
  rfl

theorem frameReport_eq : frameReport p (senseFields f) a =
    (breathStep (s.setup (frameSetup (s.player p) (senseFields f)))
      ((s.player p).netPressure (senseFields f).breath.toNat) (s.player p).breath).2 := by
  have net : ((Machine.frameSelected p (senseFields f) a).player p).netPressure (senseFields f).breath.toNat =
      (s.player p).netPressure (senseFields f).breath.toNat := by
    rw [PlayerState.netPressure, PlayerState.frameZero, h.frameSelected.player, PlayerState.telling_capturePending,
      PlayerState.telling_zeroOffset, startedAccount_record]
    rfl
  rw [frameReport, breathReport, frameSelected_activeSetup h, frameSelected_breath h, net]

theorem Account.Holds.frameResolved (silent : frameReport p (senseFields f) a ≠ .onset) :
    (heardAccount s p f).Holds s p (frameResolved p (senseFields f) a) := by
  have curves : (Machine.frameSelected p (senseFields f) a).curves = s.curves :=
    PoolStands.curves (Account.Holds.frame h.frameSelected)
  rw [Machine.frameResolved, frameReport, resolverStages_frontEnd silent, frameSelected_activeSetup h, curves]
  exact h.frameSelected.modPlayer (PlayerState.hears_leavesQueues ..)

end

section
variable {s : State} {p : Player} {f : FrameBody}

theorem heardAccount_record : (heardAccount s p f).record =
    PlayerState.hears (s.setup (frameSetup (s.player p) (senseFields f))) s.curves (senseFields f)
      { (s.player p).linked f with
        selected := (senseFields f).setup, active := frameSetup (s.player p) (senseFields f)
        learn := if changesAtStart s p f then none else (s.player p).learn } := by
  rw [← startedAccount_record]
  rfl

theorem heardAccount_breath : (heardAccount s p f).record.breath = frameBreath s p f := by
  rw [heardAccount_record]
  rfl

end

/-! ### The end of a frame that leaves its player with no note (R17, R22, R108, R112, R163) -/

/-- The frame's press clears the stack of a player that it does not leave BREATHING (R112). -/
def clearsStack (s : State) (p : Player) (f : FrameBody) : Bool :=
  pressed s p f && !(frameBreath s p f = .breathing : Bool)

def PlayerState.seeLatch (f : FrameBody) (ps : PlayerState) : PlayerState :=
  { ps with latchSeen := (senseFields f).latch }

def PlayerState.openSlot (f : FrameBody) (ps : PlayerState) : PlayerState :=
  { ps with slot := if (senseFields f).replyOk then .opened f.seq else ps.slot }

/-- The account of a frame after a decision that leaves no note. -/
def Account.finished (s : State) (p : Player) (f : FrameBody) (a : Account) : Account :=
  let seen := a.update (PlayerState.seeLatch f)
  let pressed := if clearsStack s p f then seen.cleared s p else seen
  let applied := if changesAtEnd s p f then pressed.applied s p f else pressed
  applied.update (PlayerState.openSlot f)

section
variable {s : State} {p : Player} {f : FrameBody} (a : Account)

theorem Account.finished_record : (a.finished s p f).record =
    { a.record with
      latchSeen := (senseFields f).latch
      latch := if clearsStack s p f then [] else a.record.latch
      active := if changesAtEnd s p f then (senseFields f).setup else a.record.active
      learn := if changesAtEnd s p f then none else a.record.learn
      slot := if (senseFields f).replyOk then .opened f.seq else a.record.slot } := by
  unfold Account.finished
  cases clearsStack s p f <;> cases changesAtEnd s p f <;> rfl

theorem Account.finished_voice (v : VoiceId) : (a.finished s p f).voice v =
    if clearsStack s p f then unlatchedVoice (s.player p) v (a.voice v) else a.voice v := by
  unfold Account.finished
  cases clearsStack s p f <;> cases changesAtEnd s p f <;> rfl

theorem Account.finished_entry (n : ChartSlot) (e : EntryId) : (a.finished s p f).entry n e =
    if changesAtEnd s p f ∧ (s.player p).learns n e then { a.entry n e with reservation := none } else a.entry n e := by
  unfold Account.finished
  cases clearsStack s p f <;> cases changesAtEnd s p f <;> simp [Account.applied, Account.cleared, Account.update]

theorem Account.finished_records : (a.finished s p f).records =
    a.records ++ (if clearsStack s p f then latchClearRecords s p 1 else []) ++
      (if changesAtEnd s p f then changeRecords s p f else []) := by
  unfold Account.finished
  cases clearsStack s p f <;> cases changesAtEnd s p f <;> simp [Account.applied, Account.cleared, Account.update]

theorem Account.finished_replies : (a.finished s p f).replies =
    a.replies ++ (if changesAtEnd s p f then cancelledReplies s p else []) := by
  unfold Account.finished
  cases clearsStack s p f <;> cases changesAtEnd s p f <;> simp [Account.applied, Account.cleared, Account.update]

end

end Sys2Proof.Machine


/-! Frames that leave their player with no note: no decision, and the two kinds of note off. -/

namespace Sys2Proof.Machine

/-! ### The stages after a decision that leaves no note -/

theorem State.noteVoices_of_silent {s : State} {p : Player} (silent : (s.player p).note = none) : s.noteVoices p = [] := by
  rw [State.noteVoices, silent]

theorem updatePitch_of_silent {s : State} {p : Player} (silent : (s.player p).note = none) : updatePitch p s = s := by
  rw [updatePitch, State.noteVoices_of_silent silent]
  rfl

theorem handOff_of_silent {s : State} {p : Player} (silent : (s.player p).note = none) : handOff p s = s := by
  rw [handOff, State.noteVoices_of_silent silent]
  rfl

/-- A press with no note empties the stack, and does nothing while the player is BREATHING (R108, R112). -/
theorem press_of_silent {s : State} {p : Player} (silent : (s.player p).note = none) :
    press p s = if (s.player p).breath = .breathing then s else clearStack p 1 s := by
  unfold press
  rw [silent]
  cases (s.player p).breath <;> rfl

section
variable {s : State} {p : Player} {f : FrameBody}

theorem changesAtStart_of_busy (quiet : (s.player p).breath ≠ .quiet) (muted : (s.player p).breath ≠ .muted) :
    changesAtStart s p f = false := by simp [changesAtStart, quiet, muted]

theorem frameSetup_of_busy (quiet : (s.player p).breath ≠ .quiet) (muted : (s.player p).breath ≠ .muted) :
    frameSetup (s.player p) (senseFields f) = (s.player p).active := by
  unfold frameSetup
  cases state : (s.player p).breath <;> simp_all

/-- The deferred setup change of a frame is the one that `changesAtEnd` tells of (R22). -/
theorem deferredSetup_of_frame {u : State} (breath : (u.player p).breath = frameBreath s p f)
    (selected : (u.player p).selected = (senseFields f).setup)
    (active : (u.player p).active = frameSetup (s.player p) (senseFields f)) :
    deferredSetup p (s.player p).breath u = if changesAtEnd s p f then applySetup p u else u := by
  by_cases changes : changesAtEnd s p f = true
  · obtain ⟨⟨other, not_quiet, not_muted⟩, quiet⟩ : ((s.player p).active ≠ (senseFields f).setup ∧
        (s.player p).breath ≠ .quiet ∧ (s.player p).breath ≠ .muted) ∧ frameBreath s p f = .quiet := by
      simpa [changesAtEnd] using changes
    have waits : (∃ n, (s.player p).breath = .pending n) ∨ (s.player p).breath = .breathing := by
      cases state : (s.player p).breath <;> simp_all
    rw [if_pos changes, deferredSetup_of_waits p _ _ waits (breath.trans quiet)]
    rw [selected, active, frameSetup_of_busy not_quiet not_muted]
    exact other.symm
  · rw [if_neg changes, deferredSetup_of_not]
    by_contra! waits
    obtain ⟨not_quiet, not_muted, quiet, differs⟩ := waits
    rw [selected, active, frameSetup_of_busy not_quiet not_muted] at differs
    rw [breath] at quiet
    exact changes (by simp [changesAtEnd, differs.symm, not_quiet, not_muted, quiet])

theorem changesAtEnd_of_start (start : changesAtStart s p f = true) : changesAtEnd s p f = false := by
  have calm : ((s.player p).breath = .quiet || (s.player p).breath = .muted) = true := (Bool.and_eq_true_iff.1 start).2
  rw [changesAtEnd, calm]
  simp

theorem changesAtStart_of_end (late : changesAtEnd s p f = true) : changesAtStart s p f = false := by
  by_contra start
  simp [changesAtEnd_of_start (Bool.eq_true_of_not_eq_false start)] at late

end

/-- A player's record after a frame's decision that leaves no note, but for what the frame has told. -/
def silentRecord (s : State) (p : Player) (f : FrameBody) : PlayerState :=
  { PlayerState.hears (s.setup (frameSetup (s.player p) (senseFields f))) s.curves (senseFields f)
      { (s.player p).linked f with
        selected := (senseFields f).setup, active := frameSetup (s.player p) (senseFields f)
        learn := if changesAtStart s p f then none else (s.player p).learn } with
    note := none }

section
variable {s : State} {p : Player} {f : FrameBody} {a : Account} {d : State}
  (record : a.record = silentRecord s p f) (h : a.Holds s p d)
include record h

theorem Account.Holds.latchButton :
    (if clearsStack s p f then (a.update (PlayerState.seeLatch f)).cleared s p
      else a.update (PlayerState.seeLatch f)).Holds s p (latchButton p (senseFields f).latch d) := by
  have seen : (a.update (PlayerState.seeLatch f)).Holds s p (d.modPlayer p (PlayerState.seeLatch f)) :=
    h.modPlayer ⟨fun _ _ _ => rfl, fun _ _ _ => rfl⟩
  have silent : ((d.modPlayer p (PlayerState.seeLatch f)).player p).note = none := by
    rw [seen.player, PlayerState.telling_note, Account.update, record]
    rfl
  have breath : ((d.modPlayer p (PlayerState.seeLatch f)).player p).breath = frameBreath s p f := by
    rw [seen.player, PlayerState.telling_breath, Account.update, record]
    rfl
  have before : (d.player p).latchSeen = (s.player p).latchSeen := by
    rw [h.player, PlayerState.telling_latchSeen, record]
    rfl
  have button : Machine.latchButton p (senseFields f).latch d =
      if clearsStack s p f then Machine.clearStack p 1 (d.modPlayer p (PlayerState.seeLatch f))
      else d.modPlayer p (PlayerState.seeLatch f) := by
    rw [Machine.latchButton, before, clearsStack, pressed]
    cases (senseFields f).latch && !(s.player p).latchSeen with
    | false => rfl
    | true =>
      refine (press_of_silent silent).trans ?_
      rw [breath]
      by_cases breathing : frameBreath s p f = .breathing
      · simp only [breathing, if_true]
        rfl
      · simp only [breathing, if_false]
        rfl
  rw [button]
  split
  · exact seen.clearStack (by rw [Account.update, record]; rfl)
  · exact seen

theorem Account.Holds.finished :
    (a.finished s p f).Holds s p (openSlot p f.seq (senseFields f).replyOk (deferredSetup p (s.player p).breath
      (handOff p (Machine.latchButton p (senseFields f).latch (updatePitch p d))))) := by
  have silent : (d.player p).note = none := by
    rw [h.player, PlayerState.telling_note, record]
    rfl
  have pressed := h.latchButton record
  have late : (if clearsStack s p f then (a.update (PlayerState.seeLatch f)).cleared s p
      else a.update (PlayerState.seeLatch f)).record =
      { silentRecord s p f with
        latchSeen := (senseFields f).latch
        latch := if clearsStack s p f then [] else (silentRecord s p f).latch } := by
    rw [← record]
    split <;> rfl
  rw [updatePitch_of_silent silent]
  unfold Account.finished
  dsimp only
  generalize (if clearsStack s p f then (a.update (PlayerState.seeLatch f)).cleared s p
      else a.update (PlayerState.seeLatch f)) = b at *
  generalize Machine.latchButton p (senseFields f).latch d = u at *
  have breath : (u.player p).breath = frameBreath s p f := by
    rw [pressed.player, PlayerState.telling_breath, late]
    rfl
  have selected : (u.player p).selected = (senseFields f).setup := by
    rw [pressed.player, PlayerState.telling_selected, late]
    rfl
  have active : (u.player p).active = frameSetup (s.player p) (senseFields f) := by
    rw [pressed.player, PlayerState.telling_active, late]
    rfl
  have quiet_note : (u.player p).note = none := by
    rw [pressed.player, PlayerState.telling_note, late]
    rfl
  rw [handOff_of_silent quiet_note, openSlot_eq, deferredSetup_of_frame breath selected active]
  refine Account.Holds.modPlayer (g := PlayerState.openSlot f) ?_ ⟨fun _ _ _ => rfl, fun _ _ _ => rfl⟩
  split
  next late_change =>
    refine pressed.applySetup (by rw [late]; rfl) ?_
    rw [late]
    simp only [silentRecord, PlayerState.hears, changesAtStart_of_end late_change, Bool.false_eq_true, if_false]
  next => exact pressed

end

/-! ### What such a frame leaves -/

section
variable {s : State} {p : Player} {f : FrameBody} {a : Account} {t : State}
  (record : a.record = silentRecord s p f) (h : (a.finished s p f).Holds s p t)
include record h

theorem Account.Holds.finished_player :
    t.player p = { silentRecord s p f with
      latchSeen := (senseFields f).latch
      latch := if clearsStack s p f then [] else (s.player p).latch
      active := if changesAtEnd s p f then (senseFields f).setup else (silentRecord s p f).active
      learn := if changesAtEnd s p f then none else (silentRecord s p f).learn
      slot := if (senseFields f).replyOk then .opened f.seq else (s.player p).slot }.telling
        (a.finished s p f).records (a.finished s p f).replies := by
  rw [h.player, Account.finished_record, record]
  rfl

theorem Account.Holds.tells (b : State) : Tells s p f (a.finished s p f).records (a.finished s p f).replies (settleLine b t) :=
  tells_of_telling ((settleLine_player ..).trans (h.finished_player record)) rfl rfl rfl rfl

theorem Account.Holds.learnFollows (entry : a.entry = (startedAccount s p f).entry) (b : State) :
    LearnFollows s p f (settleLine b t) := by
  have learn : (t.player p).learn =
      if changesAtEnd s p f then none else if changesAtStart s p f then none else (s.player p).learn := by
    rw [h.finished_player record, PlayerState.telling_learn]
    rfl
  have entries (n : ChartSlot) (e : EntryId) : t.entry n e = if changesAtEnd s p f ∧ (s.player p).learns n e then
      { (startedAccount s p f).entry n e with reservation := none } else (startedAccount s p f).entry n e := by
    rw [h.entries, Account.finished_entry, entry]
  simp only [startedAccount_entry] at entries
  unfold LearnFollows
  rw [settleLine_player, learn]
  cases start : changesAtStart s p f <;> cases late : changesAtEnd s p f
  · simp only [start, late, Bool.false_eq_true, false_and, if_false] at entries
    exact ⟨rfl, by rw [settleLine_eq]; exact State.charts_ext entries⟩
  all_goals
    simp only [start, late, Bool.false_eq_true, false_and, true_and, if_false] at entries
    refine ⟨rfl, fun n e => ?_⟩
    rw [settleLine_entry, entries]
  · cases (s.player p).learns n e <;> rfl

end

section
variable {s : State} {p : Player} {f : FrameBody}

theorem heardAccount_record_of_silent (silent : (s.player p).note = none) :
    (heardAccount s p f).record = silentRecord s p f := by
  rw [heardAccount_record, silentRecord, ← silent]
  rfl

/-- A frame that takes no decision and finds no note leaves note and pool alone but for a press (R85, R112). -/
theorem NoneDecided.of_finished {t : State} (silent : (s.player p).note = none)
    (h : ((heardAccount s p f).finished s p f).Holds s p t) (b : State) :
    NoneDecided s p f (clearsStack s p f) (silentRecords s p f (clearsStack s p f)) (changeReplies s p f)
      (settleLine b t) := by
  have record := heardAccount_record_of_silent (f := f) silent
  have player := h.finished_player record
  have records : ((heardAccount s p f).finished s p f).records = silentRecords s p f (clearsStack s p f) := by
    rw [Account.finished_records, heardAccount, Account.update, startedAccount_records]
    rfl
  have replies : ((heardAccount s p f).finished s p f).replies = changeReplies s p f := by
    rw [Account.finished_replies, heardAccount, Account.update, startedAccount_replies, changeReplies]
    cases start : changesAtStart s p f with
    | false => rfl
    | true => rw [changesAtEnd_of_start start]; exact List.append_nil _
  refine ⟨⟨?_, ?_⟩, ?_, ?_, fun v => ?_, ?_, ?_, fun q other => h.others q other⟩
  · rw [settleLine_player, player, PlayerState.telling_note]; rfl
  · rw [settleLine_player, player, PlayerState.telling_tagCounter]; rfl
  · rw [settleLine_player, player, PlayerState.telling_held]; rfl
  · rw [settleLine_player, player, PlayerState.telling_latch]
  · rw [settleLine_voice, h.voices, Account.finished_voice, heardAccount, Account.update, startedAccount_voice]
  · have pool := PoolStands.pool (s := s) (t := t) h.frame
    exact pool
  · rw [← records, ← replies]; exact h.tells record b

/-- A frame that ends the note leaves the rest of the pool alone but for a press (R89, R112). -/
theorem NoteEnded.of_finished {t : State} {note : Note} (current : (s.player p).note = some note) (reason : OffReason)
    (quiet : (heardAccount s p f).records = [] ∧ (heardAccount s p f).replies = [])
    (h : (((heardAccount s p f).ended s p reason).finished s p f).Holds s p t) (b : State) :
    NoteEnded s p f (clearsStack s p f)
      ([recordOf s .noteOff note.tag note.number 0 reason.code] ++
        (if clearsStack s p f then latchClearRecords s p 1 else []) ++
        (if changesAtEnd s p f then changeRecords s p f else []))
      (if changesAtEnd s p f then cancelledReplies s p else []) (settleLine b t) := by
  have record : ((heardAccount s p f).ended s p reason).record = silentRecord s p f := by
    rw [Account.ended, heardAccount_record]
    rfl
  have player := h.finished_player record
  have told := h.tells record b
  rw [Account.finished_records, Account.finished_replies, Account.ended, quiet.1, quiet.2, noteOffRecords, current] at told
  refine ⟨⟨?_, ?_⟩, ?_, ?_, fun v => ?_, ?_, told, fun q other => h.others q other⟩
  · rw [settleLine_player, player, PlayerState.telling_note]; rfl
  · rw [settleLine_player, player, PlayerState.telling_tagCounter]; rfl
  · rw [settleLine_player, player, PlayerState.telling_held]; rfl
  · rw [settleLine_player, player, PlayerState.telling_latch]
  · rw [settleLine_voice, h.voices, Account.finished_voice, Account.ended, heardAccount, Account.update,
      startedAccount_voice]
  · have pool := PoolStands.pool (s := s) (t := t) h.frame
    exact pool

/-! ### The decision of the frame (R85) -/

/-- A frame whose decision leaves no note, by the account of its decision. -/
theorem exec_of_decided {acc : Account} (linked : (s.player p).link = .up ∨ (s.player p).link = .lost)
    (stands : frameStands s p { kind := .sense, body := f } = true) (record : acc.record = silentRecord s p f)
    (decided : ∀ a, (linkedAccount s p f).Holds s p (a.modPlayer p fun ps => { ps with silence := some 0 }) →
      acc.Holds s p (frameDecided p (senseFields f) a)) :
    ∃ t, exec (.senseFrame p f) s = .next (settleLine s t) ∧ (acc.finished s p f).Holds s p t := by
  obtain ⟨a, taken, arrived⟩ := takeSense_of_linked (f := f) linked
  refine ⟨_, exec_of_effect ((takeFrame_of_stands stands _).trans taken), ?_⟩
  rw [acceptSense_eq, frameSelected_breath arrived]
  exact (decided a arrived).finished record

theorem frameReport_ne_onset {a : State}
    (arrived : (linkedAccount s p f).Holds s p (a.modPlayer p fun ps => { ps with silence := some 0 }))
    (confirms_not : frameBreath s p f ≠ .breathing ∨ (s.player p).breath = .breathing) :
    frameReport p (senseFields f) a ≠ .onset := by
  rw [frameReport_eq arrived, ne_eq, breathStep_onset_iff]
  rintro ⟨⟨k, pending⟩, breathing⟩
  rcases confirms_not with other | goes
  · exact other breathing
  · simp [pending] at goes

theorem decide_of_silent {r : BreathReport} {res : Resolution} {d : State} (no_onset : r ≠ .onset)
    (silent : (d.player p).note = none)
    (idle : (d.player p).breath ≠ .breathing ∨ (d.activeSetup p).policy = .hold ∨ res = .unmatched) :
    decide p r res d = d := by
  unfold decide decisionFor
  rw [silent]
  cases r with
  | onset => exact absurd rfl no_onset
  | noteOff => rfl
  | none =>
    cases res with
    | unmatched => rfl
    | matched n flag =>
      have still : ¬((d.player p).breath = .breathing ∧ (d.activeSetup p).policy = .silent) := by
        rintro ⟨breathing, policy⟩
        simp [breathing, policy] at idle
      dsimp only
      rw [if_neg still]
      rfl

theorem Account.Holds.decided_silent {a : State} (silent : (s.player p).note = none)
    (arrived : (linkedAccount s p f).Holds s p (a.modPlayer p fun ps => { ps with silence := some 0 }))
    (after : frameBreath s p f ≠ .breathing) : (heardAccount s p f).Holds s p (frameDecided p (senseFields f) a) := by
  have no_onset := frameReport_ne_onset arrived (.inl after)
  have heard := arrived.frameResolved no_onset
  have note : ((Machine.frameResolved p (senseFields f) a).player p).note = none := by
    rw [heard.player, PlayerState.telling_note, heardAccount_record]
    exact silent
  have breath : ((Machine.frameResolved p (senseFields f) a).player p).breath = frameBreath s p f := by
    rw [heard.player, PlayerState.telling_breath, heardAccount_breath]
  rw [frameDecided, decide_of_silent no_onset note (.inl (by rwa [breath]))]
  exact heard

/-- A frame of `StaysSilent` takes no decision; a press clears the stack. -/
theorem execSenseFrame_of_silent (stays : StaysSilent s p f) :
    ∃ t, exec (.senseFrame p f) s = .next t ∧
      NoneDecided s p f (pressed s p f) (silentRecords s p f (pressed s p f)) (changeReplies s p f) t ∧
      LearnFollows s p f t := by
  obtain ⟨t, run, finished⟩ := exec_of_decided stays.linked stays.stands (heardAccount_record_of_silent stays.note)
    fun a arrived => arrived.decided_silent stays.note stays.after
  have clears : clearsStack s p f = pressed s p f := by simp [clearsStack, stays.after]
  have none := NoneDecided.of_finished stays.note finished s
  rw [clears] at none
  exact ⟨_, run, none, finished.learnFollows (heardAccount_record_of_silent stays.note) rfl s⟩

/-- Settles O30: the press by the equations of an emptied stack, and the frame as one that takes no decision. -/
theorem latchPressClearsTheStack : Obligations.LatchPressClearsTheStack := by
  refine ⟨fun p s calm silent => ?_, fun p f s stays press => ?_⟩
  · rw [press_of_silent silent, if_neg calm]
    refine ⟨clearStack_eq .., fun v => clearStack_voice .., ?_, fun q other => ?_⟩
    · rw [clearStack_player, if_pos rfl]
    · rw [clearStack_player, if_neg other]
  · have silent := execSenseFrame_of_silent stays
    rwa [press] at silent

/-! ### Notes that end (R9, R89) -/

theorem heardAccount_quiet (up : (s.player p).link = .up) (start : changesAtStart s p f = false) :
    (heardAccount s p f).records = [] ∧ (heardAccount s p f).replies = [] := by
  rw [heardAccount, Account.update, startedAccount_records, startedAccount_replies, start, recoveredRecords, up]
  exact ⟨rfl, rfl⟩

/-- The off decision of a frame, as an account of its decision. -/
theorem Account.Holds.decided_ended {d : State} {note : Note} (current : (s.player p).note = some note)
    (h : (heardAccount s p f).Holds s p d) {r : BreathReport} {res : Resolution} {reason : OffReason}
    (decision : decisionFor r (d.player p).breath res (d.activeSetup p).policy (some note) = .off reason) :
    ((heardAccount s p f).ended s p reason).Holds s p (decide p r res d) := by
  have kept : (heardAccount s p f).record.note = (s.player p).note := by rw [heardAccount_record]; rfl
  have note_kept : (d.player p).note = some note := by rw [h.player, PlayerState.telling_note, kept, current]
  rw [Machine.decide, note_kept, decision]
  exact h.offDecision kept reason

theorem frameBreath_of_releases (releases : Releases s p f) : frameBreath s p f = .quiet := by
  rw [frameBreath, frameSetup_of_busy (by simp [releases.1]) (by simp [releases.1]), releases.1]
  exact if_pos releases.2

/-- A frame that ends the breath ends the note (R9, R89). -/
theorem execSenseFrame_of_releases {note : Note} (accepted : AcceptedFrame s p f)
    (current : (s.player p).note = some note) (releases : Releases s p f) :
    ∃ t, exec (.senseFrame p f) s = .next t ∧ (t.player p).breath = .quiet ∧ LearnFollows s p f t ∧
      NoteEnded s p f (pressed s p f)
        ([recordOf s .noteOff note.tag note.number 0 1] ++
          (if pressed s p f then latchClearRecords s p 1 else []) ++
          (if changesAtEnd s p f then changeRecords s p f else [])) (changeReplies s p f) t := by
  have after := frameBreath_of_releases releases
  have start : changesAtStart s p f = false := changesAtStart_of_busy (by simp [releases.1]) (by simp [releases.1])
  have record : ((heardAccount s p f).ended s p .breath).record = silentRecord s p f := by
    rw [Account.ended, heardAccount_record]
    rfl
  obtain ⟨t, run, finished⟩ := exec_of_decided (.inl accepted.up) accepted.stands record fun a arrived => by
    have report : frameReport p (senseFields f) a = .noteOff := by
      rw [frameReport_eq arrived, frameSetup_of_busy (by simp [releases.1]) (by simp [releases.1]), releases.1, breathStep,
        effectiveRelease_eq]
      exact congrArg Prod.snd (if_pos releases.2)
    have heard := arrived.frameResolved (by simp [report])
    rw [frameDecided]
    exact heard.decided_ended current (by rw [report]; rfl)
  have ended := NoteEnded.of_finished current .breath (heardAccount_quiet accepted.up start) finished s
  have clears : clearsStack s p f = pressed s p f := by simp [clearsStack, after]
  have replies : changeReplies s p f = if changesAtEnd s p f then cancelledReplies s p else [] := by
    rw [changeReplies, start, Bool.false_or]
  rw [clears, ← replies] at ended
  refine ⟨_, run, ?_, finished.learnFollows record rfl s, ended⟩
  rw [settleLine_player, finished.finished_player record, PlayerState.telling_breath]
  exact after

/-- The account of a frame of an UP link in PENDING or BREATHING is the part that its decision finds. -/
theorem heardAccount_record_of_busy (up : (s.player p).link = .up)
    (busy : (∃ k, (s.player p).breath = .pending k) ∨ (s.player p).breath = .breathing) :
    (heardAccount s p f).record = { heardRecord s p f with latchSeen := (s.player p).latchSeen } := by
  have not_quiet : (s.player p).breath ≠ .quiet := by rintro quiet; simp [quiet] at busy
  have not_muted : (s.player p).breath ≠ .muted := by rintro muted; simp [muted] at busy
  have onset : (breathStep (s.activeSetup p) ((s.player p).netPressure (senseFields f).breath.toNat)
        (s.player p).breath).2 = .onset ↔ (s.player p).breath ≠ .breathing ∧
      breathAfter (s.activeSetup p) ((s.player p).netPressure (senseFields f).breath.toNat) (s.player p).breath =
        .breathing := by
    rw [breathStep_onset_iff, Onset]
    rcases busy with ⟨k, pending⟩ | breathing
    · simp [pending]
    · simp [breathing]
  rw [heardAccount_record, frameSetup_of_busy not_quiet not_muted, changesAtStart_of_busy not_quiet not_muted]
  simp only [heardRecord, ← onset]
  rw [PlayerState.linked, ← up]
  rfl

theorem heardAccount_holds_of_goesOn (up : (s.player p).link = .up) (goesOn : GoesOn s p f) :
    (heardAccount s p f).Holds s p (decidingState s p f) := by
  have start : changesAtStart s p f = false := changesAtStart_of_busy (by simp [goesOn.1]) (by simp [goesOn.1])
  have quiet := heardAccount_quiet up start
  refine ⟨rfl, fun v => ?_, fun n e => ?_, ?_, fun q other => State.player_modPlayer_other _ other _⟩
  · rw [heardAccount, Account.update, startedAccount_voice]
    rfl
  · rw [heardAccount, Account.update, startedAccount_entry, start]
    simp only [Bool.false_eq_true, false_and, if_false]
    rfl
  · rw [decidingState_player, quiet.1, quiet.2, heardAccount_record_of_busy up (.inr goesOn.1)]
    rfl

/-- A frame that goes on BREATHING and whose decision leaves no note, by the account of its decision. -/
theorem exec_of_goesOn {acc : Account} (accepted : AcceptedFrame s p f) (goesOn : GoesOn s p f)
    (record : acc.record = silentRecord s p f)
    (decided : acc.Holds s p (decide p .none (heldResolution s p (senseFields f)) (decidingState s p f))) :
    ∃ t, exec (.senseFrame p f) s = .next (settleLine s t) ∧ (acc.finished s p f).Holds s p t := by
  refine ⟨_, exec_of_effect ((takeFrame_of_stands accepted.stands _).trans (takeSense_of_goesOn accepted.up goesOn)), ?_⟩
  rw [← goesOn.1]
  exact decided.finished record

theorem changesAtEnd_of_goesOn (goesOn : GoesOn s p f) : changesAtEnd s p f = false := by
  rw [changesAtEnd, frameBreath_of_goesOn goesOn]
  simp

theorem clearsStack_of_goesOn (goesOn : GoesOn s p f) : clearsStack s p f = false := by
  rw [clearsStack, frameBreath_of_goesOn goesOn]
  simp

/-- Under SILENT an unmatched fingering ends the note of a player that goes on BREATHING (R89). -/
theorem execSenseFrame_of_unmatched {note : Note} (accepted : AcceptedFrame s p f)
    (current : (s.player p).note = some note) (goesOn : GoesOn s p f) (policy : (s.activeSetup p).policy = .silent)
    (unmatched : heldResolution s p (senseFields f) = .unmatched) :
    ∃ t, exec (.senseFrame p f) s = .next t ∧ (t.player p).breath = .breathing ∧ LearnFollows s p f t ∧
      NoteEnded s p f false [recordOf s .noteOff note.tag note.number 0 2] [] t := by
  have start : changesAtStart s p f = false := changesAtStart_of_busy (by simp [goesOn.1]) (by simp [goesOn.1])
  have record : ((heardAccount s p f).ended s p .unmatched).record = silentRecord s p f := by
    rw [Account.ended, heardAccount_record]
    rfl
  have heard := heardAccount_holds_of_goesOn accepted.up goesOn
  have breath : ((decidingState s p f).player p).breath = .breathing := by
    rw [heard.player, PlayerState.telling_breath, heardAccount_breath, frameBreath_of_goesOn goesOn]
  obtain ⟨t, run, finished⟩ := exec_of_goesOn accepted goesOn record (heard.decided_ended current (by
    rw [breath, decidingState_activeSetup, policy, unmatched]
    rfl))
  have ended := NoteEnded.of_finished current .unmatched (heardAccount_quiet accepted.up start) finished s
  rw [clearsStack_of_goesOn goesOn, changesAtEnd_of_goesOn goesOn] at ended
  refine ⟨_, run, ?_, finished.learnFollows record rfl s, ended⟩
  rw [settleLine_player, finished.finished_player record, PlayerState.telling_breath]
  exact frameBreath_of_goesOn goesOn

/-- Settles O27: both kinds of note off, by the account of the frame. -/
theorem breathReleaseEndsTheNote : Obligations.BreathReleaseEndsTheNote :=
  fun _ _ _ _ accepted current =>
    ⟨execSenseFrame_of_releases accepted current, execSenseFrame_of_unmatched accepted current⟩

end

end Sys2Proof.Machine


/-! Latch pushes: the room that is made, the note that is frozen, and the frame whose press pushes. -/

namespace Sys2Proof.Machine

/-! ### Room for a push (R109) -/

section
variable {p : Player} {s : State}

theorem makeRoom_of_room (room : (s.player p).latch.length < 4) : makeRoom p s = s := by
  rcases makeRoom_cases p s with ⟨-, same⟩ | ⟨e, es, -, full, -⟩
  · exact same
  · exact absurd room (Nat.not_lt.2 full)

theorem makeRoom_of_full {e : LatchEntry} {es : List LatchEntry} (stack : (s.player p).latch = e :: es)
    (full : 3 ≤ es.length) : makeRoom p s = report p .latchDrop e.tag e.number e.flag.byte 1
      ((releaseEntry e s).modPlayer p fun ps => { ps with latch := es }) := by
  rcases makeRoom_cases p s with ⟨room, -⟩ | ⟨bottom, rest, same, -, made⟩
  · rw [stack, List.length_cons] at room
    omega
  · rw [stack] at same
    cases same
    exact made

theorem releaseEntry_eq (e : LatchEntry) (s : State) : releaseEntry e s = { s with voices := (releaseEntry e s).voices } :=
  foldl_modVoice_eq (letGo .latched) e.voices s

/-- A SOUNDING voice is left alone by the room that a push makes. -/
theorem makeRoom_voice_of_sounding {v : VoiceId} (sounding : (s.voice v).state = .sounding) :
    (makeRoom p s).voice v = s.voice v := by
  rcases makeRoom_cases p s with ⟨-, same⟩ | ⟨e, es, -, -, made⟩
  · rw [same]
  · have kept : letGo .latched (s.voice v) = s.voice v := if_neg (by simp [sounding])
    rw [made, report_voice, State.modPlayer_voice, releaseEntry_voice, kept, ite_self]

theorem makeRoom_tagCounter : ((makeRoom p s).player p).tagCounter = (s.player p).tagCounter := by
  rcases makeRoom_cases p s with ⟨-, same⟩ | ⟨e, es, -, -, made⟩
  · rw [same]
  · rw [made, report_player_self, PlayerState.queued_tagCounter, State.player_modPlayer_self, releaseEntry_player]

/-! ### The push (R110, R111) -/

/-- A voice frozen into an entry is frozen for good. -/
theorem Voice.frozen_frozen (tuning : Int) (glide : Nat) (bend : Int) (vo : Voice) :
    (vo.frozen tuning glide bend).frozen tuning glide bend = vo.frozen tuning glide bend := by
  simp only [Voice.frozen, retune_eq]

theorem latchNote_voice_of_bound {note : Note} {v : VoiceId} (bound : v ∈ s.noteVoices p)
    (unclaimed : v ∉ claimedVoices note) : (latchNote p note s).voice v =
      (s.voice v).frozen s.tuning (latchEntryOf s p note (s.noteVoices p)).glide (s.player p).bend := by
  unfold latchNote
  simp only [clearClaim_eq, report_voice]
  rw [foldl_modVoice_voice (fun vo : Voice => { vo with claim := none }) (fun _ => rfl), if_neg unclaimed,
    State.modPlayer_voice, foldl_modVoice_voice _ (Voice.frozen_frozen _ _ _), if_pos bound]
  rfl

theorem latchNote_voice_of_unbound {note : Note} {v : VoiceId} (unbound : v ∉ s.noteVoices p) :
    (latchNote p note s).voice v =
      if v ∈ claimedVoices note then { s.voice v with claim := none } else s.voice v := by
  unfold latchNote
  simp only [clearClaim_eq, report_voice]
  rw [foldl_modVoice_voice (fun vo : Voice => { vo with claim := none }) (fun _ => rfl), State.modPlayer_voice,
    foldl_modVoice_voice _ (Voice.frozen_frozen _ _ _), if_neg unbound]

theorem latchNote_eq (note : Note) : latchNote p note s =
    { s with voices := (latchNote p note s).voices, players := (latchNote p note s).players } := by
  unfold latchNote
  simp only [clearClaim_eq]
  rw [foldl_modVoice_eq (fun vo : Voice => { vo with claim := none }), foldl_modVoice_eq]
  rfl

/-- The note of an onset: the next tag, the number and flag asked for, and one item for each enabled layer (R86). -/
theorem onsetDecision_note (n : Nat) (flag : RangeFlag) :
    ∃ items, ((onsetDecision p n flag s).player p).note = some { newNote s p n flag with binding := items } ∧
      items.map Binding.layer = enabledLayers (s.activeSetup p) := by
  have began : ((beginNote p (newNote s p n flag) s).player p).note = some (newNote s p n flag) :=
    congrArg PlayerState.note (State.player_modPlayer_self ..)
  obtain ⟨items, current⟩ := layerRequests_note (note := newNote s p n flag) began (enabledLayers (s.activeSetup p))
  have note : ((onsetDecision p n flag s).player p).note = some { newNote s p n flag with binding := items } := by
    rw [onsetDecision, reportOnset_player, if_pos rfl, PlayerState.queuedAll_note]
    exact current
  refine ⟨items, note, ?_⟩
  have layers := onsetDecision_layerList p n flag s p
  rwa [if_pos rfl, PlayerState.layerList, note] at layers

/-- The room for a push, where the stack is full (R109). -/
theorem makeRoom_drops {e : LatchEntry} {es : List LatchEntry} (stack : (s.player p).latch = e :: es)
    (full : 3 ≤ es.length) :
    makeRoom p s = { s with voices := (makeRoom p s).voices, players := (makeRoom p s).players } ∧
    (∀ v, (makeRoom p s).voice v = if v ∈ e.voices ∧ (s.voice v).state = .latched then
        { s.voice v with state := .releasing, target := 0, endReported := false } else s.voice v) ∧
    (makeRoom p s).player p =
      PlayerState.queued { s.player p with latch := es } (recordOf s .latchDrop e.tag e.number e.flag.byte 1) ∧
    SameOthers p s (makeRoom p s) := by
  rw [makeRoom_of_full stack full]
  refine ⟨?_, fun v => ?_, ?_, fun q other => ?_⟩
  · rw [releaseEntry_eq]
    rfl
  · rw [report_voice, State.modPlayer_voice, releaseEntry_voice, letGo]
    by_cases listed : v ∈ e.voices <;> by_cases latched : (s.voice v).state = .latched <;>
      simp [listed, latched, Voice.released]
  · rw [report_player_self, State.player_modPlayer_self, releaseEntry_player, recordOf, releaseEntry_eq]
    rfl
  · rw [report_player_other _ _ _ _ _ _ _ other, State.player_modPlayer_other _ other, releaseEntry_player]

/-- The entry of a push starts from the glide of the note's first voice (R110). -/
theorem latchEntryOf_glide (note : Note) {voices : List VoiceId} {v : VoiceId} (first : voices.head? = some v) :
    (latchEntryOf s p note voices).glide = (s.voice v).glideCurrent := by
  cases voices with
  | nil => cases first
  | cons w rest =>
    cases first
    rfl

/-- A press while BREATHING pushes the note, where a voice of it is SOUNDING (R108). -/
theorem press_of_current {note : Note} (breathing : (s.player p).breath = .breathing)
    (current : (s.player p).note = some note) : press p s = if s.noteVoices p = [] then s else push p note s := by
  simp only [press, breathing, current]

/-- The note that follows a push (R111). -/
theorem push_note (note : Note) : ∃ fresh, ((push p note s).player p).note = some fresh ∧
    fresh.number = note.number ∧ fresh.flag = note.flag ∧ fresh.tag = (s.player p).tagCounter + 1 ∧
    fresh.setup = (s.player p).active ∧ fresh.binding.map Binding.layer = enabledLayers (s.activeSetup p) := by
  have latched : SoundsOnly s (latchNote p note (makeRoom p s)) := (SoundsOnly.makeRoom p s).trans (.latchNote p note _)
  have counter : ((latchNote p note (makeRoom p s)).player p).tagCounter = (s.player p).tagCounter := by
    rw [latchNote_player, if_pos rfl, PlayerState.queued_tagCounter]
    exact makeRoom_tagCounter
  have active : ((latchNote p note (makeRoom p s)).player p).active = (s.player p).active := by rw [(latched.2 p).1]
  have setup : (latchNote p note (makeRoom p s)).activeSetup p = s.activeSetup p := by
    rw [State.activeSetup, active, latched.1]
    rfl
  obtain ⟨items, current, layers⟩ := onsetDecision_note (s := latchNote p note (makeRoom p s)) (p := p) note.number note.flag
  exact ⟨_, current, rfl, rfl, congrArg (· + 1) counter, active, layers.trans (by rw [setup])⟩

end

/-- Settles O29: room, push and press by their equations, and the frame as the followed note, the push and the
hand-off. -/
theorem latchPushFreezesTheNote : Obligations.LatchPushFreezesTheNote := by
  refine ⟨fun p s room => makeRoom_of_room room, fun p e es s stack full => makeRoom_drops stack full,
    fun p note s current heard => ?_, fun p note s breathing current => press_of_current breathing current,
    fun p f note s accepted goesOn current distinct press heard sounds => ?_⟩
  · have voices := makeRoom_noteVoices p s
    have claims : claimedVoices note = (s.player p).claimedList := by rw [PlayerState.claimedList, current]; rfl
    have tuning : (makeRoom p s).tuning = s.tuning := by rw [(SoundsOnly.makeRoom p s).1]
    have count : (makeRoom p s).sampleCount = s.sampleCount := by rw [(SoundsOnly.makeRoom p s).1]
    have bend : ((makeRoom p s).player p).bend = (s.player p).bend := by rw [((SoundsOnly.makeRoom p s).2 p).1]
    have kept {v : VoiceId} (bound : v ∈ s.noteVoices p) : (makeRoom p s).voice v = s.voice v :=
      makeRoom_voice_of_sounding (State.mem_noteVoices.1 bound).2
    refine ⟨latchEntryOf (makeRoom p s) p note ((makeRoom p s).noteVoices p), latchNote_eq note, ?_, fun q other => ?_,
      rfl, rfl, rfl, voices, bend, fun v first => ?_, fun v bound unclaimed => ?_, fun v unbound => ?_, push_note note⟩
    · rw [latchNote_player, if_pos rfl, voices, recordOf, count, recordOf]
    · rw [latchNote_player, if_neg other]
    · rw [latchEntryOf_glide note (voices ▸ first), kept (List.mem_of_mem_head? first)]
    · rw [latchNote_voice_of_bound (voices ▸ bound) (claims ▸ unclaimed), kept bound, tuning]
      rfl
    · rw [latchNote_voice_of_unbound (voices ▸ unbound), claims]
  · obtain ⟨t, u, run, followed, handed⟩ := execSenseFrame_of_goesOn goesOn current sounds distinct accepted
    rw [press, if_pos rfl, press_of_current (followed.breath goesOn) followed.currentNote,
      if_neg (heard ∘ (followed.noteVoices_eq_nil_iff current).1)] at handed
    exact ⟨t, u, run, followed, handed⟩

end Sys2Proof.Machine


/-! What every accepted sense frame leaves in its player's records, whatever it decides. -/

namespace Sys2Proof.Machine

/-! ### Records but for what playing and learning change -/

/-- A record with what playing changes taken from another. -/
def PlayerState.playedAs (a b : PlayerState) : PlayerState :=
  { a with
    note := b.note, tagCounter := b.tagCounter, latch := b.latch, held := b.held, replies := b.replies,
    statusA := b.statusA, denied := b.denied, events := b.events }

/-- An update that neither reads nor writes what playing changes goes past playing. -/
theorem PlayedOnly.update {a b : PlayerState} (h : PlayedOnly a b) (g : PlayerState → PlayerState)
    (blind : ∀ x y : PlayerState, g (x.playedAs y) = (g x).playedAs y) : PlayedOnly (g a) (g b) := by
  obtain ⟨eq, m, flags, low⟩ := h
  have after : g b = (g a).playedAs b := (congrArg g eq).trans (blind a b)
  have kept : (g a).statusA = a.statusA := by
    have same := congrArg PlayerState.statusA (blind a a)
    exact same
  refine ⟨?_, m, ?_, low⟩
  · rw [after]
    rfl
  · rw [after, kept, ← flags]
    rfl

theorem PlayedOnly.telling (a : PlayerState) (records : List EventRecord) (replies : List Reply) :
    PlayedOnly a (a.telling records replies) := by
  have placed (x : PlayerState) : PlayedOnly x (x.placedAll replies) := by
    unfold PlayerState.placedAll
    induction replies generalizing x with
    | nil => exact .refl x
    | cons r rest ih => exact (PlayedOnly.placed x r).trans (ih _)
  exact (PlayedOnly.queuedAll a records).trans (placed _)

/-- A record is another but for what playing changes and the learn record, which a frame may end. -/
def PlayedLearning (a b : PlayerState) : Prop := ∃ learn, PlayedOnly { a with learn := learn } b

theorem PlayedOnly.playedLearning {a b : PlayerState} (h : PlayedOnly a b) : PlayedLearning a b := ⟨a.learn, h⟩

theorem PlayedLearning.refl (a : PlayerState) : PlayedLearning a a := (PlayedOnly.refl a).playedLearning

theorem PlayedLearning.trans {a b c : PlayerState} (h : PlayedLearning a b) (k : PlayedLearning b c) :
    PlayedLearning a c := by
  obtain ⟨_, h⟩ := h
  obtain ⟨learn, k⟩ := k
  exact ⟨learn, (h.update (fun ps => { ps with learn := learn }) fun _ _ => rfl).trans k⟩

theorem PlayedLearning.update {a b : PlayerState} (h : PlayedLearning a b) (g : PlayerState → PlayerState)
    (blind : ∀ x y : PlayerState, g (x.playedAs y) = (g x).playedAs y)
    (unlearned : ∀ (x : PlayerState) learn, g { x with learn := learn } = { g x with learn := learn }) :
    PlayedLearning (g a) (g b) := by
  obtain ⟨learn, h⟩ := h
  refine ⟨learn, ?_⟩
  rw [← unlearned]
  exact h.update g blind

theorem SoundsOnly.playedLearning {s t : State} (h : SoundsOnly s t) (p : Player) :
    PlayedLearning (s.player p) (t.player p) := (h.2 p).playedLearning

theorem PlayedLearning.completeLearn (p : Player) (s : State) :
    PlayedLearning (s.player p) ((completeLearn p s).player p) := by
  cases pending : (s.player p).learn with
  | none =>
    rw [Machine.completeLearn, pending]
    exact .refl _
  | some r =>
    rw [completeLearn_player pending, if_pos rfl]
    exact ⟨none, (PlayedOnly.queued _ _).trans (.placed _ _)⟩

theorem PlayedLearning.applySetup (p : Player) (s : State) :
    PlayedLearning { s.player p with active := (s.player p).selected } ((applySetup p s).player p) := by
  rw [applySetup_player, if_pos rfl]
  exact ⟨none, (PlayedOnly.queuedAll _ _).trans (.learnPlaced _ _ _)⟩

theorem completeLearn_activeSetup (p : Player) (s : State) : (completeLearn p s).activeSetup p = s.activeSetup p := by
  have active : ((completeLearn p s).player p).active = (s.player p).active := by
    obtain ⟨_, h⟩ := PlayedLearning.completeLearn p s
    rw [h.1]
  rw [State.activeSetup, active, PlaysOnly.completeLearn p s]
  rfl

/-- What the learn completion of an onset frame leaves of the record, once the bite is heard (R20, R40, R54). -/
theorem PlayedLearning.bendStage_completeLearn (p : Player) (bite : BitVec 7) (s : State) :
    PlayedLearning ((bendStage p bite s).player p) ((bendStage p bite (Machine.completeLearn p s)).player p) := by
  have learned := PlayedLearning.completeLearn p s
  rw [bendStage_player, bendStage_player, if_pos rfl, if_pos rfl, completeLearn_activeSetup]
  exact learned.update (fun ps => { ps with bend := _ }) (fun _ _ => rfl) fun _ _ => rfl

/-! ### The record after the frame -/

/-- A player's record after an accepted frame, but for what playing and learning change. -/
def framedRecord (s : State) (p : Player) (f : FrameBody) : PlayerState :=
  { PlayerState.hears (s.setup (frameSetup (s.player p) (senseFields f))) s.curves (senseFields f)
      { (s.player p).linked f with
        selected := (senseFields f).setup, active := frameSetup (s.player p) (senseFields f) } with
    latchSeen := (senseFields f).latch
    active := if changesAtEnd s p f then (senseFields f).setup else frameSetup (s.player p) (senseFields f)
    slot := if (senseFields f).replyOk then .opened f.seq else (s.player p).slot }

section
variable {s : State} {p : Player} {f : FrameBody} {a : State}
  (arrived : (linkedAccount s p f).Holds s p (a.modPlayer p fun ps => { ps with silence := some 0 }))
include arrived

theorem PlayedLearning.frameResolved :
    PlayedLearning
      (PlayerState.hears (s.setup (frameSetup (s.player p) (senseFields f))) s.curves (senseFields f)
        { (s.player p).linked f with
          selected := (senseFields f).setup, active := frameSetup (s.player p) (senseFields f) })
      ((frameResolved p (senseFields f) a).player p) := by
  have selected := arrived.frameSelected
  have setup := frameSelected_activeSetup arrived
  have curves : (Machine.frameSelected p (senseFields f) a).curves = s.curves :=
    PoolStands.curves (Account.Holds.frame selected)
  have told : PlayedLearning { (s.player p).linked f with
      selected := (senseFields f).setup, active := frameSetup (s.player p) (senseFields f) }
      ((Machine.frameSelected p (senseFields f) a).player p) := by
    rw [selected.player, startedAccount_record]
    exact ⟨_, PlayedOnly.telling _ _ _⟩
  have heard := told.update (PlayerState.hears (s.setup (frameSetup (s.player p) (senseFields f))) s.curves (senseFields f))
    (fun _ _ => rfl) fun _ _ => rfl
  refine heard.trans ?_
  rw [Machine.frameResolved, frameReport, ← setup, ← curves]
  generalize Machine.frameSelected p (senseFields f) a = u
  by_cases onset : breathReport p (senseFields f).breath.toNat u = .onset
  · have stages := bendStage_keyStages (p := p) (x := senseFields f) (s := u) true (by simp [onset])
    have record := congrArg (State.player · p) stages
    rw [State.player_modPlayer_self] at record
    rw [← record, resolverStages, if_pos onset, onset, decide_eq_true rfl]
    exact .bendStage_completeLearn ..
  · rw [resolverStages_frontEnd onset, State.player_modPlayer_self]
    exact .refl _

theorem PlayedLearning.frameHanded :
    PlayedLearning
      { PlayerState.hears (s.setup (frameSetup (s.player p) (senseFields f))) s.curves (senseFields f)
          { (s.player p).linked f with
            selected := (senseFields f).setup, active := frameSetup (s.player p) (senseFields f) } with
        latchSeen := (senseFields f).latch }
      ((frameHanded p (senseFields f) a).player p) := by
  have resolved := PlayedLearning.frameResolved arrived
  have decided := resolved.trans ((SoundsOnly.decide p (frameReport p (senseFields f) a)
    (resolution (Machine.frameResolved p (senseFields f) a) p (senseFields f).contact)
    (Machine.frameResolved p (senseFields f) a)).playedLearning p)
  have pitched := decided.trans ((SoundsOnly.updatePitch p _).playedLearning p)
  have seen := pitched.update (fun ps => { ps with latchSeen := (senseFields f).latch }) (fun _ _ => rfl) fun _ _ => rfl
  have button : PlayedLearning
      { (updatePitch p (frameDecided p (senseFields f) a)).player p with latchSeen := (senseFields f).latch }
      ((latchButton p (senseFields f).latch (updatePitch p (frameDecided p (senseFields f) a))).player p) := by
    have here := State.player_modPlayer_self (updatePitch p (frameDecided p (senseFields f) a)) p
      fun ps => { ps with latchSeen := (senseFields f).latch }
    rw [← here, latchButton]
    split
    · exact (SoundsOnly.press p _).playedLearning p
    · exact .refl _
  rw [Machine.frameHanded, handOff_player]
  exact seen.trans button

theorem PlayedLearning.framed :
    PlayedLearning (framedRecord s p f) ((openSlot p f.seq (senseFields f).replyOk
      (deferredSetup p (s.player p).breath (Machine.frameHanded p (senseFields f) a))).player p) := by
  have handed := PlayedLearning.frameHanded arrived
  generalize Machine.frameHanded p (senseFields f) a = u at handed
  have record := handed.choose_spec.1
  have selected : (u.player p).selected = (senseFields f).setup := by rw [record]; rfl
  rw [deferredSetup_of_frame (f := f) (by rw [record]; rfl) selected (by rw [record]; rfl), openSlot_eq,
    State.player_modPlayer_self]
  refine PlayedLearning.trans ?_ (PlayedLearning.update (a := { u.player p with
      active := if changesAtEnd s p f then (senseFields f).setup else frameSetup (s.player p) (senseFields f) }) ?_
    (fun ps => { ps with slot := if (senseFields f).replyOk then .opened f.seq else ps.slot }) (fun _ _ => rfl)
    fun _ _ => rfl)
  · exact handed.update (fun ps => { ps with
      active := if changesAtEnd s p f then (senseFields f).setup else frameSetup (s.player p) (senseFields f)
      slot := if (senseFields f).replyOk then .opened f.seq else ps.slot }) (fun _ _ => rfl) fun _ _ => rfl
  · split
    next =>
      have applied := PlayedLearning.applySetup p u
      rwa [selected] at applied
    next =>
      have active : (u.player p).active = frameSetup (s.player p) (senseFields f) := by rw [record]; rfl
      rw [← active]
      exact .refl _

end

end Sys2Proof.Machine


/-! The chart entries that a frame leaves alone, and every accepted frame's records. -/

namespace Sys2Proof.Machine

/-! ### Entries that no learn of the player names (R54, R58) -/

/-- The entries that p's learn does not name stand, and p learns no other entry than before. -/
structure KeepsUnlearned (p : Player) (s t : State) : Prop where
  entry : ∀ n e, (s.player p).learns n e = false → t.entry n e = s.entry n e
  learn : (t.player p).learn = (s.player p).learn ∨ (t.player p).learn = none

namespace KeepsUnlearned
variable {p : Player} {s t u : State}

theorem unlearned (h : KeepsUnlearned p s t) {n : ChartSlot} {e : EntryId} (other : (s.player p).learns n e = false) :
    (t.player p).learns n e = false := by
  rcases h.learn with same | ended
  · rw [PlayerState.learns, same]
    exact other
  · rw [PlayerState.learns, ended]

theorem trans (h : KeepsUnlearned p s t) (k : KeepsUnlearned p t u) : KeepsUnlearned p s u where
  entry n e other := (k.entry n e (h.unlearned other)).trans (h.entry n e other)
  learn := by
    rcases k.learn with same | ended
    · rw [same]; exact h.learn
    · exact .inr ended

theorem of_charts (charts : t.charts = s.charts) (learn : (t.player p).learn = (s.player p).learn) :
    KeepsUnlearned p s t := ⟨fun _ _ _ => by rw [State.entry, charts, State.entry], .inl learn⟩

theorem refl (p : Player) (s : State) : KeepsUnlearned p s s := of_charts rfl rfl

theorem modPlayer (f : PlayerState → PlayerState) (learn : (f (s.player p)).learn = (s.player p).learn) :
    KeepsUnlearned p s (s.modPlayer p f) := of_charts rfl (by rwa [State.player_modPlayer_self])

theorem of_sounds (h : SoundsOnly s t) : KeepsUnlearned p s t := of_charts (by rw [h.1]) (by rw [(h.2 p).1])

theorem applySetup (p : Player) (s : State) : KeepsUnlearned p s (applySetup p s) where
  entry n e other := by rw [applySetup_entry, if_neg (by simp [other])]
  learn := by
    rw [applySetup_player, if_pos rfl, PlayerState.learnPlaced_eq_placedAll]
    exact .inr (PlayerState.telling_learn _ _ _)

theorem completeLearn (p : Player) (s : State) : KeepsUnlearned p s (completeLearn p s) := by
  cases pending : (s.player p).learn with
  | none =>
    rw [Machine.completeLearn, pending]
    exact refl p s
  | some r =>
    refine ⟨fun n e other => ?_, .inr ?_⟩
    · rw [completeLearn_entry pending, if_neg]
      rintro ⟨rfl, rfl⟩
      simp [PlayerState.learns, pending] at other
    · rw [completeLearn_player pending, if_pos rfl, PlayerState.placed_learn, PlayerState.queued_learn]

theorem selectSetup (p : Player) (n : SetupId) (s : State) : KeepsUnlearned p s (selectSetup p n s) := by
  have chosen : KeepsUnlearned p s (s.modPlayer p fun ps => { ps with selected := n }) := modPlayer _ rfl
  rcases selectSetup_cases p n s with h | h <;> rw [h]
  · exact chosen
  · exact chosen.trans (applySetup p _)

theorem deferredSetup (p : Player) (before : BreathState) (s : State) :
    KeepsUnlearned p s (deferredSetup p before s) := by
  rcases deferredSetup_cases p before s with h | h <;> rw [h]
  · exact refl p s
  · exact applySetup p s

theorem checkSequence (p : Player) (seq : BitVec 4) (s : State) : KeepsUnlearned p s (checkSequence p seq s) := by
  have heard : KeepsUnlearned p s (s.modPlayer p fun ps => { ps with seqRef := some seq }) := modPlayer _ rfl
  unfold Machine.checkSequence
  dsimp only
  split
  · exact heard
  · split
    · exact heard
    · exact heard.trans (modPlayer _ rfl)

theorem bringUp (p : Player) (cause : Nat) (seq : BitVec 4) (s : State) : KeepsUnlearned p s (bringUp p cause seq s) := by
  rw [Machine.bringUp, report_eq_modPlayer]
  exact (modPlayer _ rfl).trans (modPlayer _ (PlayerState.queued_learn _ _))

theorem resolverStages (p : Player) (f : SenseFields) (r : BreathReport) (s : State) :
    KeepsUnlearned p s (resolverStages p f r s) := by
  have keyed (onset : Bool) : KeepsUnlearned p s (keyStages p f onset s) := by
    rw [keyStages]
    exact modPlayer _ rfl
  have bent (t : State) : KeepsUnlearned p t (bendStage p f.bite t) := by
    rw [bendStage]
    exact modPlayer _ rfl
  unfold Machine.resolverStages
  dsimp only
  split
  · exact ((keyed _).trans (completeLearn p _)).trans (bent _)
  · exact (keyed _).trans (bent _)

theorem latchButton (p : Player) (down : Bool) (s : State) : KeepsUnlearned p s (latchButton p down s) := by
  have seen : KeepsUnlearned p s (s.modPlayer p fun ps => { ps with latchSeen := down }) := modPlayer _ rfl
  unfold Machine.latchButton
  dsimp only
  split
  · exact seen.trans (of_sounds (.press p _))
  · exact seen

theorem acceptSense (p : Player) (seq : BitVec 4) (f : SenseFields) (s : State) :
    KeepsUnlearned p s (acceptSense p seq f s) := by
  have selected : KeepsUnlearned p s (frameSelected p f s) :=
    (modPlayer (fun ps => { ps with silence := some 0 }) rfl).trans (selectSetup p _ _)
  have resolved : KeepsUnlearned p s (frameResolved p f s) :=
    (selected.trans (modPlayer _ rfl)).trans (resolverStages p f _ _)
  have decided : KeepsUnlearned p s (frameDecided p f s) := resolved.trans (of_sounds (.decide p _ _ _))
  have handed : KeepsUnlearned p s (frameHanded p f s) :=
    ((decided.trans (of_sounds (.updatePitch ..))).trans (latchButton ..)).trans (of_sounds (.handOff ..))
  rw [acceptSense_eq, openSlot_eq]
  exact (handed.trans (deferredSetup ..)).trans (modPlayer _ rfl)

theorem takeSense (p : Player) (f : FrameBody) (s : State) : KeepsUnlearned p s (takeSense p f s) := by
  unfold Machine.takeSense
  split
  · exact refl p s
  · exact (checkSequence p _ s).trans (acceptSense ..)
  · exact (bringUp p 2 _ s).trans (acceptSense ..)

end KeepsUnlearned

/-! ### The records of an accepted frame -/

section
variable {s : State} {p : Player} {f : FrameBody}

/-- A frame that leaves its player QUIET, or finds it QUIET or MUTED, makes its selection the active setup (R21, R22). -/
theorem framedRecord_active_of_calm (calm : frameBreath s p f = .quiet ∨ (s.player p).breath = .quiet ∨
    (s.player p).breath = .muted) : (framedRecord s p f).active = (senseFields f).setup := by
  change (if changesAtEnd s p f then (senseFields f).setup else frameSetup (s.player p) (senseFields f)) = _
  split
  next => rfl
  next stays =>
    by_cases not_quiet : (s.player p).breath = .quiet
    · simp only [frameSetup, not_quiet]
    · by_cases not_muted : (s.player p).breath = .muted
      · simp only [frameSetup, not_muted]
      · rw [frameSetup_of_busy not_quiet not_muted]
        simpa [changesAtEnd, not_quiet, not_muted, calm.resolve_right (by simp [not_quiet, not_muted])] using stays

/-- A PENDING or BREATHING player that a frame does not leave QUIET keeps its active setup (R21). -/
theorem framedRecord_active_of_busy (after : frameBreath s p f ≠ .quiet) (not_quiet : (s.player p).breath ≠ .quiet)
    (not_muted : (s.player p).breath ≠ .muted) : (framedRecord s p f).active = (s.player p).active := by
  have stays : changesAtEnd s p f = false := by simp [changesAtEnd, after]
  change (if changesAtEnd s p f then (senseFields f).setup else frameSetup (s.player p) (senseFields f)) = _
  rw [stays]
  exact frameSetup_of_busy not_quiet not_muted

theorem frameRecords_of_framed {t : State} (framed : PlayedLearning (framedRecord s p f) (t.player p))
    (frame : t = { s with
      voices := t.voices, freeQueue := t.freeQueue, stampCounter := t.stampCounter, players := t.players,
      charts := t.charts, pulse := t.pulse, irqHigh := t.irqHigh })
    (others : ∀ q, q ≠ p → RobbedOnly (s.player q) (t.player q))
    (charts : ∀ n e, (s.player p).learns n e = false → t.entry n e = s.entry n e) : FrameRecords s p f t := by
  obtain ⟨learn, record, m, flags, low⟩ := framed
  have breath : (t.player p).breath = frameBreath s p f := by rw [record]; rfl
  have active : (t.player p).active = (framedRecord s p f).active := by rw [record]
  refine ⟨frame, others, ?_, ?_, ?_, ⟨?_, fun calm => ?_, fun after not_quiet not_muted => ?_, ?_⟩, ⟨m, flags, low⟩, ?_,
    charts⟩
  · rw [record]; exact ⟨rfl, rfl, rfl, rfl, rfl⟩
  · rw [record]; exact ⟨rfl, rfl, rfl, rfl⟩
  · rw [record]
    refine ⟨rfl, rfl, fun settles => if_pos ?_, fun no_onset unsettled => if_neg ?_, rfl, rfl, rfl⟩
    · rw [breathStep_onset_iff]
      exact settles
    · rw [breathStep_onset_iff]
      exact not_or.2 ⟨no_onset, Nat.not_le.2 unsettled⟩
  · rw [record]; rfl
  · rw [active, framedRecord_active_of_calm (by rwa [← breath])]
  · rw [active, framedRecord_active_of_busy (by rwa [← breath]) not_quiet not_muted]
  · rw [record]; rfl
  · rw [record]; exact ⟨rfl, rfl, rfl, rfl, rfl, rfl, rfl, rfl, rfl, rfl, rfl, rfl⟩

/-- Every accepted frame of an UP or LOST link leaves its records (R1, R20, R155). -/
theorem execSenseFrame_records (linked : (s.player p).link = .up ∨ (s.player p).link = .lost)
    (stands : frameStands s p { kind := .sense, body := f } = true) :
    ∃ t, exec (.senseFrame p f) s = .next t ∧ FrameRecords s p f t := by
  obtain ⟨a, taken, arrived⟩ := takeSense_of_linked (f := f) linked
  have played : PlaysOnly s (takeSense p f (clearReceived p s)) :=
    PlaysOnly.trans (.modPlayer s p _) (.takeSense p f _)
  have robbed : RobbedOthers p s (takeSense p f (clearReceived p s)) :=
    (RobbedOthers.modPlayer p s _).trans (.takeSense p f _)
  have unlearned : KeepsUnlearned p s (takeSense p f (clearReceived p s)) :=
    (KeepsUnlearned.modPlayer (fun ps => { ps with received := none }) rfl).trans (.takeSense p f _)
  have framed : PlayedLearning (framedRecord s p f) ((takeSense p f (clearReceived p s)).player p) := by
    rw [taken, acceptSense_eq, frameSelected_breath arrived]
    exact .framed arrived
  refine ⟨_, exec_of_effect (takeFrame_of_stands stands _), frameRecords_of_framed ?_ ?_ ?_ ?_⟩
  · exact framed
  · generalize takeSense p f (clearReceived p s) = u at *
    rw [PlaysOnly] at played
    rw [played]
    rfl
  · exact fun q other => robbed.1 q other
  · exact unlearned.entry

/-- Settles O25: the records of every accepted frame by its stages, and the frame that takes no decision by its
account. -/
theorem senseFrameSetsTheRecords : Obligations.SenseFrameSetsTheRecords := by
  refine ⟨fun p f s linked stands => execSenseFrame_records linked stands, fun p f s stays idle => ?_⟩
  have silent := execSenseFrame_of_silent stays
  rwa [idle] at silent

end

end Sys2Proof.Machine


/-! The latch button and the onset: an onset neither reads nor writes what the latch button has seen. -/

namespace Sys2Proof.Machine

/-! ### The choice of the pool reads voices, queue and held counts alone (R90 to R93) -/

/-- Two states agree on what the pool's choice reads of the players' records. -/
structure SamePool (s t : State) : Prop where
  frame : t = { s with players := t.players }
  held : ∀ q, (t.player q).held = (s.player q).held
  ceiling : ∀ q, (t.player q).ceiling = (s.player q).ceiling
  reserve : ∀ q, (t.player q).reserve = (s.player q).reserve
  latch : ∀ q, (t.player q).latch = (s.player q).latch

namespace SamePool
variable {s t : State} (h : SamePool s t)
include h

theorem excess (q : Player) : (t.player q).excess = (s.player q).excess := by
  rw [PlayerState.excess, h.held, h.reserve, h.ceiling, PlayerState.excess]

theorem insertByExcess (q : Player) (l : List Player) : insertByExcess t q l = insertByExcess s q l := by
  induction l with
  | nil => rfl
  | cons r rs ih => rw [Machine.insertByExcess, Machine.insertByExcess, h.excess, h.excess, ih]

theorem tierThreeOrder (p : Player) : tierThreeOrder t p = tierThreeOrder s p := by
  have insert : Machine.insertByExcess t = Machine.insertByExcess s := funext fun q => funext (h.insertByExcess q)
  simp only [Machine.tierThreeOrder, insert, h.excess]

theorem searches :
    tierOne t = tierOne s ∧ robbed t = robbed s ∧ t.owned = s.owned ∧ t.quieter = s.quieter ∧ t.latchedIn = s.latchedIn ∧
      t.older = s.older ∧ t.freeQueue = s.freeQueue := by
  rw [h.frame]
  exact ⟨rfl, rfl, rfl, rfl, rfl, rfl, rfl⟩

theorem poolChoice (p : Player) : poolChoice t p = poolChoice s p := by
  obtain ⟨one, robs, owned, quieter, latched, older, queue⟩ := h.searches
  have two : tierTwo t p = tierTwo s p := by rw [tierTwo, h.latch, latched, older, tierTwo]
  have three : tierThree t p = tierThree s p := by rw [tierThree, h.tierThreeOrder, robs, tierThree]
  have own : ownVictim t p = ownVictim s p := by rw [ownVictim, owned, quieter, two, ownVictim]
  have tiers : tierVictim t p = tierVictim s p := by rw [tierVictim, one, two, three, tierVictim]
  rw [Machine.poolChoice, h.ceiling, h.held, own, tiers, queue, Machine.poolChoice]

end SamePool

/-! ### Operations that go past the latch button's update (R108) -/

/-- What the latch button has seen becomes `down`. -/
def PlayerState.seen (down : Bool) (ps : PlayerState) : PlayerState := { ps with latchSeen := down }

/-- The operation neither reads nor writes what p's latch button has seen. -/
def PassesButton (p : Player) (op : State → State) : Prop :=
  ∀ s down, op (s.modPlayer p (PlayerState.seen down)) = (op s).modPlayer p (PlayerState.seen down)

theorem State.modPlayer_comm (s : State) (p q : Player) {f g : PlayerState → PlayerState} (commute : ∀ x, f (g x) = g (f x)) :
    (s.modPlayer p g).modPlayer q f = (s.modPlayer q f).modPlayer p g := by
  rcases eq_or_ne q p with rfl | other
  · rw [State.modPlayer_modPlayer, State.modPlayer_modPlayer]
    exact State.modPlayer_congr (commute _)
  · have apart : p.val ≠ q.val := fun same => other (Fin.ext same.symm)
    simp only [State.modPlayer, Fin.getElem_fin, Vector.getElem_set_ne _ _ apart, Vector.getElem_set_ne _ _ apart.symm]
    rw [Vector.set_comm _ _ apart]

theorem PassesButton.comp {p : Player} {op op' : State → State} (h : PassesButton p op) (k : PassesButton p op') :
    PassesButton p fun s => op' (op s) := fun s down =>
  (congrArg op' (h s down)).trans (k _ _)

/-- An update that leaves what the button has seen alone. -/
theorem PassesButton.modPlayer (p q : Player) {f : PlayerState → PlayerState}
    (blind : ∀ x down, f (PlayerState.seen down x) = PlayerState.seen down (f x)) :
    PassesButton p fun s => s.modPlayer q f := fun s down => s.modPlayer_comm p q fun x => blind x down

theorem PassesButton.foldl {α : Type} {p : Player} {op : State → α → State} (h : ∀ a, PassesButton p fun s => op s a)
    (l : List α) : PassesButton p fun s => l.foldl op s := by
  induction l with
  | nil => exact fun _ _ => rfl
  | cons a l ih => exact (h a).comp ih

section
variable (s : State) (p : Player) (down : Bool)

/-- A field that is blind to what the button has seen. -/
theorem seen_field {α : Type} (field : PlayerState → α) (blind : ∀ x, field (PlayerState.seen down x) = field x)
    (q : Player) : field ((s.modPlayer p (PlayerState.seen down)).player q) = field (s.player q) := by
  rw [State.player_modPlayer]
  split
  next same => rw [blind, same]
  next => rfl

theorem samePool_seen : SamePool s (s.modPlayer p (PlayerState.seen down)) :=
  ⟨rfl, seen_field s p down PlayerState.held fun _ => rfl, seen_field s p down PlayerState.ceiling fun _ => rfl,
    seen_field s p down PlayerState.reserve fun _ => rfl, seen_field s p down PlayerState.latch fun _ => rfl⟩

end

namespace PassesButton
variable (p : Player)

theorem report (q : Player) (kind : EventKind) (tag : BitVec 8) (note : Nat) (flags : Byte) (value : Nat) :
    PassesButton p (report q kind tag note flags value) := fun s down =>
  State.modPlayer_comm s p q (f := fun ps => ps.queued (recordOf s kind tag note flags value))
    (g := PlayerState.seen down) fun x => PlayerState.queued_update x _ (fun _ _ _ => rfl) _

theorem placeReply (q : Player) (r : Reply) : PassesButton p (placeReply q r) := fun s down =>
  State.modPlayer_comm s p q (f := fun ps => ps.placed r) (g := PlayerState.seen down) fun x =>
    PlayerState.placed_update x _ (fun _ _ _ => rfl) r

theorem grantVoice (v : VoiceId) (rest : List VoiceId) (note : Note) (l : LayerId) :
    PassesButton p (grantVoice v rest p note l) := by
  intro s down
  have bend := seen_field s p down PlayerState.bend (fun _ => rfl) p
  have fresh : soundFor (s.modPlayer p (PlayerState.seen down)) p note note.tag l = soundFor s p note note.tag l := by
    funext vo
    simp only [soundFor, bend]
    rfl
  rw [Machine.grantVoice, fresh]
  exact PassesButton.modPlayer p p (fun _ _ => rfl) (((s.modVoice v (soundFor s p note note.tag l)).withFree rest).stampUp) down

theorem seizeVoice (v : VoiceId) (u : VoiceUse) (tag : BitVec 8) (l : LayerId) :
    PassesButton p (seizeVoice v u p tag l) := by
  intro s down
  have detached (x : PlayerState) (d : Bool) (st : VoiceState) :
      (PlayerState.seen d x).detached v st = PlayerState.seen d (x.detached v st) := by cases st <;> rfl
  have moved := ((PassesButton.modPlayer p u.owner (f := fun ps => ps.detached v (s.voice v).state)
    fun x d => detached x d _).comp
    (PassesButton.modPlayer p u.owner (f := fun ps => { ps with held := ps.held - 1 }) fun _ _ => rfl)).comp
      (PassesButton.modPlayer p p (f := fun ps => { ps with held := ps.held + 1 }) fun _ _ => rfl)
  exact congrArg (State.modVoice · v (Voice.stolen p tag l)) (moved s down)

theorem stealVoice (v : VoiceId) (tag : BitVec 8) (l : LayerId) : PassesButton p (stealVoice v p tag l) := by
  intro s down
  cases use : (s.voice v).use with
  | none =>
    rw [stealVoice_of_none v p tag l _ use]
    exact stealVoice_of_none v p tag l (s.modPlayer p (PlayerState.seen down)) use
  | some u =>
    have dropped : droppedEntry v (s.voice v) ((s.modPlayer p (PlayerState.seen down)).player u.owner) =
        droppedEntry v (s.voice v) (s.player u.owner) :=
      seen_field s p down (droppedEntry v (s.voice v)) (fun _ => rfl) u.owner
    have told : PassesButton p (tellTaken v (s.voice v) u) :=
      (PassesButton.report p u.owner _ _ _ _ _).comp (PassesButton.placeReply p u.owner _)
    have emptied (d : Option LatchEntry) : PassesButton p (tellDropped u.owner d) := by
      cases d with
      | none => exact fun _ _ => rfl
      | some e => exact (PassesButton.report p u.owner _ _ _ _ _).comp (PassesButton.placeReply p u.owner _)
    have stolen := (((PassesButton.seizeVoice p v u tag l).comp told).comp
      (emptied (droppedEntry v (s.voice v) (s.player u.owner)))) s down
    unfold Machine.stealVoice
    rw [State.modPlayer_voice, use]
    dsimp only
    rw [dropped]
    exact stolen

theorem denyLayer (number : Nat) (l : LayerId) : PassesButton p (denyLayer p number l) :=
  (PassesButton.modPlayer p p (f := fun ps => { ps with denied := true }) fun _ _ => rfl).comp
    (PassesButton.placeReply p p _)

theorem layerRequest (note : Note) (l : LayerId) : PassesButton p (layerRequest p note l) := by
  intro s down
  have answered : (poolChoice s p).apply p note l (s.modPlayer p (PlayerState.seen down)) =
      ((poolChoice s p).apply p note l s).modPlayer p (PlayerState.seen down) := by
    cases poolChoice s p with
    | grant v rest => exact PassesButton.grantVoice p v rest note l s down
    | steal v => exact PassesButton.stealVoice p v note.tag l s down
    | deny => exact PassesButton.denyLayer p note.number l s down
  rw [Machine.layerRequest, (samePool_seen s p down).poolChoice p, answered]
  exact PassesButton.modPlayer p p (f := fun ps => { ps with
    note := ps.note.map fun n => { n with binding := n.binding ++ [{ layer := l, item := (poolChoice s p).item }] } })
    (fun _ _ => rfl) _ down

theorem reportOnset (note : Note) : PassesButton p (reportOnset p note) := by
  intro s down
  have items : (s.modPlayer p (PlayerState.seen down)).binding p = s.binding p := by
    have same := seen_field s p down PlayerState.note (fun _ => rfl) p
    rw [State.binding, same, State.binding]
  unfold Machine.reportOnset
  rw [items]
  exact ((PassesButton.report p p _ _ _ _ _).comp (PassesButton.foldl (fun b : Binding => PassesButton.report p p _ _ _ _ _) _)) s
    down

/-- An onset goes past what the latch button has seen (R86, R108). -/
theorem onsetDecision (number : Nat) (flag : RangeFlag) : PassesButton p (onsetDecision p number flag) := by
  intro s down
  have tag := seen_field s p down PlayerState.tagCounter (fun _ => rfl) p
  have active := seen_field s p down PlayerState.active (fun _ => rfl) p
  have note : newNote (s.modPlayer p (PlayerState.seen down)) p number flag = newNote s p number flag := by
    rw [newNote, tag, active, newNote]
  have setup : (s.modPlayer p (PlayerState.seen down)).activeSetup p = s.activeSetup p := by
    rw [State.activeSetup, active]
    rfl
  have began : PassesButton p (beginNote p (newNote s p number flag)) :=
    PassesButton.modPlayer p p (f := fun ps => { ps with
      tagCounter := (newNote s p number flag).tag, note := some (newNote s p number flag) }) fun _ _ => rfl
  unfold Machine.onsetDecision
  rw [note, setup]
  exact (began.comp ((PassesButton.foldl (fun l => PassesButton.layerRequest p (newNote s p number flag) l) _).comp
    (PassesButton.reportOnset p (newNote s p number flag)))) s down

end PassesButton

end Sys2Proof.Machine


/-! The frame of an onset from its decision to its end. -/

namespace Sys2Proof.Machine

/-! ### Voices that a pitch update finds in place (R121) -/

theorem frameUpdate_eq (tuning bend : Int) (vo : Voice) :
    vo.frameUpdate tuning bend = followedVoice tuning bend vo.glideTarget vo := frameUpdate_retargeted tuning bend none vo

/-- A voice that is set up afresh stands at its pitch. -/
theorem frameUpdate_freshVoice (s : State) (p : Player) (st : Setup) (number : Nat) (bend : Int) (tag : BitVec 8)
    (l : LayerId) (stamp : BitVec 16) :
    (freshVoice s p st number bend tag l stamp).frameUpdate s.tuning bend = freshVoice s p st number bend tag l stamp := by
  rw [frameUpdate_eq]
  simp [followedVoice, freshVoice]

/-- The SOUNDING voices of p's note stand at the pitch of a tuning and a bend. -/
def Pitched (p : Player) (tuning bend : Int) (s : State) : Prop :=
  ∀ v ∈ (s.player p).boundList, (s.voice v).state = .sounding → (s.voice v).frameUpdate tuning bend = s.voice v

theorem State.modVoice_of_fixed {s : State} {v : VoiceId} {f : Voice → Voice} (fixed : f (s.voice v) = s.voice v) :
    s.modVoice v f = s := by
  unfold State.voice at fixed
  rw [State.modVoice, fixed]
  simp

theorem updatePitch_of_pitched {p : Player} {s : State} (h : Pitched p s.tuning (s.player p).bend s) :
    updatePitch p s = s := by
  have fixed (v : VoiceId) (mem : v ∈ s.noteVoices p) :
      s.modVoice v (Voice.frameUpdate s.tuning (s.player p).bend) = s := by
    obtain ⟨bound, sounding⟩ := State.mem_noteVoices.1 mem
    exact State.modVoice_of_fixed (h v bound sounding)
  unfold updatePitch
  generalize s.noteVoices p = l at fixed
  induction l with
  | nil => rfl
  | cons v l ih =>
    rw [List.foldl_cons, fixed v List.mem_cons_self]
    exact ih fun w mem => fixed w (List.mem_cons_of_mem _ mem)

/-- The pool's answer takes nothing from the note of the player that asks (R94). -/
theorem poolChoice_apply_note (p : Player) (note : Note) (l : LayerId) (s : State) :
    (((poolChoice s p).apply p note l s).player p).note = (s.player p).note := by
  cases choice : poolChoice s p with
  | grant v rest => rw [Answer.apply, grantVoice_player, if_pos rfl]
  | steal v => exact stealVoice_note_of_choice choice
  | deny => rw [Answer.apply, denyLayer_player, if_pos rfl, PlayerState.placed_note]

/-- A voice that sounds after a request and was not granted by it is as it was. -/
theorem layerRequest_voice_of_sounding {p : Player} {note : Note} {l : LayerId} {s : State} {w : VoiceId}
    (other : (poolChoice s p).item ≠ .voice w) (sounding : ((layerRequest p note l s).voice w).state = .sounding) :
    (layerRequest p note l s).voice w = s.voice w := by
  rw [layerRequest_voice] at sounding ⊢
  cases choice : poolChoice s p with
  | grant v rest =>
    rw [choice] at other
    rw [Answer.apply, grantVoice_voice, if_neg fun same => other (by rw [same]; rfl)]
  | steal v =>
    rw [choice] at sounding
    rw [Answer.apply] at sounding ⊢
    cases use : (s.voice v).use with
    | none => rw [stealVoice_of_none v p note.tag l s use]
    | some u =>
      rw [stealVoice_voice v w p note.tag l u s use] at sounding ⊢
      split at sounding
      next => cases sounding
      next foreign => rw [if_neg foreign]
  | deny => rfl

theorem Pitched.layerRequest {p : Player} {s : State} (h : Pitched p s.tuning (s.player p).bend s) {note : Note}
    (tagged : (s.player p).note.map Note.tag = some note.tag) (l : LayerId) :
    Pitched p s.tuning (s.player p).bend (layerRequest p note l s) := by
  intro w bound sounding
  obtain ⟨tag, m, has⟩ := (mem_boundList_iff _ p w).1 bound
  by_cases granted : (poolChoice s p).item = .voice w
  · have fresh : (Machine.layerRequest p note l s).voice w = freshVoice s p (s.setup note.setup) note.number
        (s.player p).bend note.tag l (s.stampCounter + 1) := by
      rw [layerRequest_voice]
      cases choice : poolChoice s p with
      | grant v rest =>
        rw [choice] at granted
        cases granted
        rw [Answer.apply, grantVoice_voice, if_pos rfl]
      | steal v => simp [choice, Answer.item] at granted
      | deny => simp [choice, Answer.item] at granted
    rw [fresh]
    exact frameUpdate_freshVoice ..
  · have same := layerRequest_voice_of_sounding granted sounding
    have before : HasItem s p tag m (.voice w) := by
      rcases (layerRequest_item l tagged p tag m _).1 has with old | ⟨-, -, -, item⟩
      · exact (bound_congr (poolChoice_apply_note p note l s) tag _).1 old
      · exact absurd item.symm granted
    rw [same] at sounding ⊢
    exact h w ((mem_boundList_iff s p w).2 ⟨tag, m, before⟩) sounding

theorem Pitched.layerRequests {p : Player} {s : State} (h : Pitched p s.tuning (s.player p).bend s) {note : Note}
    (tagged : (s.player p).note.map Note.tag = some note.tag) (ls : List LayerId) :
    Pitched p s.tuning (s.player p).bend (ls.foldl (fun t l => Machine.layerRequest p note l t) s) := by
  induction ls generalizing s with
  | nil => exact h
  | cons l ls ih =>
    have requested := SoundsOnly.layerRequest p note l s
    have tuning : (Machine.layerRequest p note l s).tuning = s.tuning := by rw [requested.1]
    have bend : ((Machine.layerRequest p note l s).player p).bend = (s.player p).bend := by rw [(requested.2 p).1]
    rw [List.foldl_cons, ← tuning, ← bend]
    refine ih ?_ ((layerRequest_tag p note l s p).trans tagged)
    rw [tuning, bend]
    exact h.layerRequest tagged l

/-- The voices that an onset sounds stand at their pitch: the pitch update that follows it changes nothing (R91, R121). -/
theorem updatePitch_onsetDecision (p : Player) (n : Nat) (flag : RangeFlag) (s : State) :
    updatePitch p (onsetDecision p n flag s) = onsetDecision p n flag s := by
  have sounds := SoundsOnly.onsetDecision p n flag s
  have tuning : (onsetDecision p n flag s).tuning = s.tuning := by rw [sounds.1]
  have bend : ((onsetDecision p n flag s).player p).bend = (s.player p).bend := by rw [(sounds.2 p).1]
  have record : (beginNote p (newNote s p n flag) s).player p =
      { s.player p with tagCounter := (newNote s p n flag).tag, note := some (newNote s p n flag) } :=
    State.player_modPlayer_self ..
  have began : Pitched p s.tuning (s.player p).bend (beginNote p (newNote s p n flag) s) := by
    intro w bound
    rw [PlayerState.boundList, record] at bound
    cases bound
  have requested : Pitched p s.tuning (s.player p).bend ((enabledLayers (s.activeSetup p)).foldl
      (fun t l => layerRequest p (newNote s p n flag) l t) (beginNote p (newNote s p n flag) s)) := by
    have tuned : (beginNote p (newNote s p n flag) s).tuning = s.tuning := rfl
    have bent : ((beginNote p (newNote s p n flag) s).player p).bend = (s.player p).bend := by rw [record]
    rw [← tuned, ← bent] at began ⊢
    exact began.layerRequests (by rw [record]; rfl) _
  refine updatePitch_of_pitched ?_
  rw [tuning, bend, onsetDecision]
  generalize (enabledLayers (s.activeSetup p)).foldl (fun t l => layerRequest p (newNote s p n flag) l t)
    (beginNote p (newNote s p n flag) s) = u at requested
  intro w bound
  have voice : (reportOnset p (newNote s p n flag) u).voice w = u.voice w := by rw [reportOnset_eq]; rfl
  rw [reportOnset_player, if_pos rfl, PlayerState.boundList, PlayerState.queuedAll_note] at bound
  rw [voice]
  exact requested w bound

end Sys2Proof.Machine


/-! The frame of an onset: the part as its decision finds it, and the decision, the press and the hand-off. -/

namespace Sys2Proof.Machine

/-! ### The part as the decision of a confirming frame finds it (R54, R55) -/

/-- What a frame reports of a pending learn is determined (R55, R56). -/
theorem learnReports_eq {s : State} {p : Player} {x : SenseFields} {r : LearnRecord} {records : List EventRecord}
    {replies : List Reply} (pending : (s.player p).learn = some r) (reports : LearnReports s p x records replies) :
    records = [learnDoneRecord s r (maskedKeys s p x)] ∧ replies = [learnResultReply s r (maskedKeys s p x)] := by
  rw [LearnReports, pending] at reports
  obtain ⟨result, either, shadowed, rfl, rfl⟩ := reports
  have outcome : result = learnOutcome s.charts[r.slot] r.entry (maskedKeys s p x) := by
    have same : result = .okShadowed ↔ learnOutcome s.charts[r.slot] r.entry (maskedKeys s p x) = .okShadowed :=
      shadowed.trans (learnOutcome_eq_okShadowed_iff s r.slot r.entry _).symm
    rcases either with ok | okShadowed
    · rcases learnOutcome_cases s.charts[r.slot] r.entry (maskedKeys s p x) with h | h
      · rw [ok, h]
      · rw [same.2 h, h]
    · rw [okShadowed, same.1 okShadowed]
  rw [outcome]
  exact ⟨rfl, rfl⟩

/-- The completion of a pending learn writes the entry and the record of its player. -/
theorem completeLearn_eq_modPlayer {s : State} {p : Player} {r : LearnRecord} (pending : (s.player p).learn = some r) :
    completeLearn p s = (s.modEntry r.slot r.entry fun _ =>
      { valid := true, pattern := (s.player p).accepted, care := (s.activeSetup p).keyMask, offset := r.offset,
        learned := true, reservation := none }).modPlayer p fun ps =>
      ({ ps with learn := none }.queued (learnDoneRecord s r (s.player p).accepted)).placed
        (learnResultReply s r (s.player p).accepted) := by
  simp only [completeLearn, pending, reportLearn, report_eq_modPlayer, placeReply_eq_modPlayer, State.modPlayer_modPlayer,
    learnOutcome_code]
  rfl

theorem afterLearn_player (s : State) (p : Player) (x : SenseFields) (q : Player) :
    (afterLearn s p x).player q = s.player q := by
  unfold afterLearn
  split <;> rfl

theorem afterLearn_eq (s : State) (p : Player) (x : SenseFields) :
    afterLearn s p x = { s with charts := (afterLearn s p x).charts } := by
  unfold afterLearn
  split <;> rfl

theorem afterLearn_activeSetup (s : State) (p : Player) (x : SenseFields) (q : Player) :
    (afterLearn s p x).activeSetup q = s.activeSetup q := by
  unfold afterLearn
  split <;> rfl

/-- The part as the note decision of a confirming frame finds it, but for its latch button (R20, R54). -/
def completedState (s : State) (p : Player) (f : FrameBody) : State :=
  bendStage p (senseFields f).bite (completeLearn p (keyedState s p f))

section
variable {s : State} {p : Player} {f : FrameBody} (confirms : Confirms s p f)
include confirms

theorem completedState_seen {records : List EventRecord} {replies : List Reply}
    (reports : LearnReports s p (senseFields f) records replies) :
    (completedState s p f).modPlayer p (PlayerState.seen (senseFields f).latch) = onsetState s p f records replies := by
  cases pending : (s.player p).learn with
  | none =>
    have idle : ((keyedState s p f).player p).learn = none := by rw [keyedState_player]; exact pending
    rw [LearnReports, pending] at reports
    obtain ⟨rfl, rfl⟩ := reports
    have completed : completeLearn p (keyedState s p f) = keyedState s p f := by rw [completeLearn, idle]
    have unlearned : { heardRecord s p f with learn := none } = heardRecord s p f := by
      rw [← pending]
      rfl
    rw [completedState, completed, bendStage_keyedState, decidingState, State.modPlayer_modPlayer, onsetState, unlearned,
      afterLearn, pending]
    rfl
  | some r =>
    obtain ⟨rfl, rfl⟩ := learnReports_eq pending reports
    have waits : ((keyedState s p f).player p).learn = some r := by rw [keyedState_player]; exact pending
    have accepted : ((keyedState s p f).player p).accepted = maskedKeys s p (senseFields f) := by
      rw [keyedState_player, keyedRecord_of_confirms confirms]
    have completed : completeLearn p (keyedState s p f) = (afterLearn s p (senseFields f)).modPlayer p fun _ =>
        ({ keyedRecord s p f with learn := none }.queued
          (learnDoneRecord s r (maskedKeys s p (senseFields f)))).placed
          (learnResultReply s r (maskedKeys s p (senseFields f))) := by
      rw [completeLearn_eq_modPlayer waits, accepted, keyedState_activeSetup, afterLearn, pending]
      have merged := State.modPlayer_modPlayer (s.modEntry r.slot r.entry fun _ => learnedEntry s p (senseFields f) r) p
        (fun _ => keyedRecord s p f) fun ps =>
          ({ ps with learn := none }.queued (learnDoneRecord s r (maskedKeys s p (senseFields f)))).placed
            (learnResultReply s r (maskedKeys s p (senseFields f)))
      exact merged
    rw [completedState, bendStage, completeLearn_activeSetup, keyedState_activeSetup, completed, State.modPlayer_modPlayer,
      State.modPlayer_modPlayer, onsetState]
    refine State.modPlayer_congr ?_
    have update := PlayerState.telling_update { keyedRecord s p f with learn := none }
      [learnDoneRecord s r (maskedKeys s p (senseFields f))] [learnResultReply s r (maskedKeys s p (senseFields f))]
      (fun ps => PlayerState.seen (senseFields f).latch { ps with
        bend := biteBend (s.activeSetup p).biteRest (s.activeSetup p).bendDepth (senseFields f).bite.toNat })
      (fun _ _ _ => rfl) fun _ _ _ => rfl
    exact update

omit confirms in
theorem completedState_activeSetup : (completedState s p f).activeSetup p = s.activeSetup p := by
  rw [completedState, bendStage]
  refine (State.modPlayer_activeSetup _ _ _ _ rfl).trans ?_
  rw [completeLearn_activeSetup, keyedState_activeSetup]

/-- The fields of the record that the lookup and the decision read (R30, R85). -/
theorem completedState_player {records : List EventRecord} {replies : List Reply}
    (reports : LearnReports s p (senseFields f) records replies) :
    PlayerState.seen (senseFields f).latch ((completedState s p f).player p) =
      { heardRecord s p f with learn := none }.telling records replies := by
  have player := congrArg (State.player · p) (completedState_seen confirms reports)
  rw [State.player_modPlayer_self, onsetState, State.player_modPlayer_self] at player
  exact player

theorem resolution_completedState {records : List EventRecord} {replies : List Reply}
    (reports : LearnReports s p (senseFields f) records replies) :
    resolution (completedState s p f) p (senseFields f).contact =
      onsetResolution (afterLearn s p (senseFields f)) p (senseFields f) := by
  have player := completedState_player confirms reports
  have accepted : ((completedState s p f).player p).accepted = maskedKeys s p (senseFields f) := by
    have same := congrArg PlayerState.accepted player
    rw [PlayerState.telling_accepted] at same
    refine same.trans ?_
    exact congrArg PlayerState.accepted (keyedRecord_of_confirms confirms)
  have trill : ((completedState s p f).player p).trill = (heardRecord s p f).trill := by
    have same := congrArg PlayerState.trill player
    rw [PlayerState.telling_trill] at same
    exact same
  have charts : (completedState s p f).charts = (afterLearn s p (senseFields f)).charts := by
    have same := congrArg State.charts (completedState_seen confirms reports)
    exact same
  have learned : (afterLearn s p (senseFields f)).player p = s.player p := afterLearn_player s p _ p
  have setup : (afterLearn s p (senseFields f)).activeSetup p = s.activeSetup p := afterLearn_activeSetup s p _ p
  simp only [resolution, noteSum, effectiveKeys, completedState_activeSetup, accepted, trill, charts, onsetResolution,
    resolutionOf, maskedKeys, learned, setup]
  rfl

end

end Sys2Proof.Machine


/-! Frames that begin a note, and frames that could and do not. -/

namespace Sys2Proof.Machine

section
variable {s : State} {p : Player} {f : FrameBody} {d : State} {n : Nat} {flag : RangeFlag}

/-! ### The decision, the press and the hand-off (R86, R108, R17) -/

/-- The pitch update finds a fresh note in place, and the latch button's record goes past the onset (R108, R121). -/
theorem latchButton_of_onset (unseen : (d.player p).latchSeen = (s.player p).latchSeen) :
    latchButton p (senseFields f).latch (updatePitch p (onsetDecision p n flag d)) =
      if pressed s p f then press p (onsetDecision p n flag (d.modPlayer p (PlayerState.seen (senseFields f).latch)))
      else onsetDecision p n flag (d.modPlayer p (PlayerState.seen (senseFields f).latch)) := by
  have kept : ((onsetDecision p n flag d).player p).latchSeen = (s.player p).latchSeen := by
    rw [← unseen, ((SoundsOnly.onsetDecision p n flag d).2 p).1]
  rw [updatePitch_onsetDecision, PassesButton.onsetDecision p n flag d, latchButton, kept]
  rfl

/-- The rest of a frame from its onset on. -/
theorem handedOff_of_onset (unseen : (d.player p).latchSeen = (s.player p).latchSeen)
    (breathing : (d.player p).breath = .breathing) (before : BreathState) (b : State) :
    let w := onsetDecision p n flag (d.modPlayer p (PlayerState.seen (senseFields f).latch))
    HandedOff p f (if pressed s p f then press p w else w) (settleLine b (openSlot p f.seq (senseFields f).replyOk
      (deferredSetup p before (handOff p (latchButton p (senseFields f).latch (updatePitch p (onsetDecision p n flag d))))))) := by
  dsimp only
  rw [latchButton_of_onset unseen, deferredSetup_of_not]
  · exact handedOff_openSlot p f b _
  · have here : ((onsetDecision p n flag (d.modPlayer p (PlayerState.seen (senseFields f).latch))).player p).breath =
        .breathing := by
      rw [((SoundsOnly.onsetDecision p n flag _).2 p).1, State.player_modPlayer_self]
      exact breathing
    refine .inr (.inr (.inl ?_))
    rw [handOff_player]
    split <;> simp [press_breath, here]

section
variable (confirms : Confirms s p f) {records : List EventRecord} {replies : List Reply}
  (reports : LearnReports s p (senseFields f) records replies)
include confirms reports

theorem completedState_breath : ((completedState s p f).player p).breath = .breathing := by
  have same := congrArg PlayerState.breath (completedState_player confirms reports)
  rw [PlayerState.telling_breath] at same
  exact same.trans (congrArg PlayerState.breath (keyedRecord_of_confirms confirms))

theorem completedState_note : ((completedState s p f).player p).note = (s.player p).note := by
  have same := congrArg PlayerState.note (completedState_player confirms reports)
  rw [PlayerState.telling_note] at same
  exact same

end

theorem completedState_latchSeen (s : State) (p : Player) (f : FrameBody) :
    ((completedState s p f).player p).latchSeen = (s.player p).latchSeen := by
  obtain ⟨_, learned⟩ := PlayedLearning.completeLearn p (keyedState s p f)
  rw [completedState, bendStage_player, if_pos rfl]
  dsimp only
  rw [learned.1, keyedState_player]
  rfl

/-- A frame that confirms an onset takes the onset decision over the completed learn (R54, R85). -/
theorem execSenseFrame_of_onset (accepted : AcceptedFrame s p f) (silent : (s.player p).note = none)
    (confirms : Confirms s p f) {records : List EventRecord} {replies : List Reply}
    (reports : LearnReports s p (senseFields f) records replies)
    (matched : onsetResolution (afterLearn s p (senseFields f)) p (senseFields f) = .matched n flag) :
    let w := onsetDecision p n flag (onsetState s p f records replies)
    ∃ t, exec (.senseFrame p f) s = .next t ∧ HandedOff p f (if pressed s p f then press p w else w) t := by
  have unseen := completedState_latchSeen s p f
  have breathing := completedState_breath confirms reports
  have note := (completedState_note confirms reports).trans silent
  have decided : decide p .onset (resolution (completedState s p f) p (senseFields f).contact) (completedState s p f) =
      onsetDecision p n flag (completedState s p f) := by
    rw [resolution_completedState confirms reports, matched, decide, note]
    rfl
  have handed := handedOff_of_onset (f := f) (n := n) (flag := flag) unseen breathing (.pending 2) s
  rw [completedState_seen confirms reports] at handed
  refine ⟨_, exec_of_effect ((takeFrame_of_stands accepted.stands _).trans (takeSense_of_confirms accepted.up confirms)), ?_⟩
  rw [afterCompletion, ← completedState, decided]
  exact handed

/-- Under SILENT a player that goes on BREATHING with no note takes the onset decision (R85). -/
theorem execSenseFrame_of_held (accepted : AcceptedFrame s p f) (silent : (s.player p).note = none)
    (goesOn : GoesOn s p f) (policy : (s.activeSetup p).policy = .silent)
    (matched : heldResolution s p (senseFields f) = .matched n flag) :
    let w := onsetDecision p n flag (heardState s p f)
    ∃ t, exec (.senseFrame p f) s = .next t ∧ HandedOff p f (if pressed s p f then press p w else w) t := by
  have breathing : ((decidingState s p f).player p).breath = .breathing := by
    rw [decidingState_player]
    exact heardRecord_breath_of_goesOn goesOn
  have note : ((decidingState s p f).player p).note = none := by
    rw [decidingState_player]
    exact silent
  have decided : decide p .none (heldResolution s p (senseFields f)) (decidingState s p f) =
      onsetDecision p n flag (decidingState s p f) := by
    rw [matched, decide, note, breathing, decidingState_activeSetup, policy]
    rfl
  have handed := handedOff_of_onset (f := f) (n := n) (flag := flag) (s := s) (d := decidingState s p f)
    (by rw [decidingState_player]) breathing .breathing s
  have seen : (decidingState s p f).modPlayer p (PlayerState.seen (senseFields f).latch) = heardState s p f := by
    rw [decidingState, State.modPlayer_modPlayer]
    rfl
  rw [seen] at handed
  refine ⟨_, exec_of_effect ((takeFrame_of_stands accepted.stands _).trans (takeSense_of_goesOn accepted.up goesOn)), ?_⟩
  rw [followedState, decided]
  exact handed

/-! ### Frames that could begin a note and do not (R85) -/

/-- The record of a confirming frame once its level has been handed off, where nothing has been decided. -/
theorem handedOff_onsetState_player {records : List EventRecord} {replies : List Reply} {t : State}
    (handed : HandedOff p f (onsetState s p f records replies) t) :
    t.player p = { heardRecord s p f with
      learn := none, slot := if (senseFields f).replyOk then .opened f.seq else (s.player p).slot }.telling records replies := by
  obtain ⟨-, -, player, -⟩ := handed
  have record : (onsetState s p f records replies).player p =
      { heardRecord s p f with learn := none }.telling records replies := State.player_modPlayer_self ..
  have opened := PlayerState.telling_update { heardRecord s p f with learn := none } records replies
    (PlayerState.openSlot f) (fun _ _ _ => rfl) fun _ _ _ => rfl
  rw [player, record]
  exact opened

theorem NoneDecided.of_handedOff {records : List EventRecord} {replies : List Reply} {t : State}
    (silent : (s.player p).note = none) (handed : HandedOff p f (onsetState s p f records replies) t) :
    NoneDecided s p f false records replies t := by
  have player := handedOff_onsetState_player handed
  have bound : ((onsetState s p f records replies).player p).boundList = [] := by
    rw [onsetState, State.player_modPlayer_self, PlayerState.boundList]
    have still : ((({ heardRecord s p f with learn := none }.queuedAll records).placedAll replies)).note = none :=
      (PlayerState.telling_note ..).trans silent
    rw [still]
    rfl
  obtain ⟨frame, voices, -, others⟩ := handed
  have learned := afterLearn_eq s p (senseFields f)
  refine ⟨⟨?_, ?_⟩, ?_, ?_, fun v => ?_, ?_, tells_of_telling player rfl rfl rfl rfl, fun q other => ?_⟩
  · rw [player, PlayerState.telling_note]; exact silent
  · rw [player, PlayerState.telling_tagCounter]; rfl
  · rw [player, PlayerState.telling_held]; rfl
  · rw [player, PlayerState.telling_latch]; rfl
  · rw [voices, bound, if_neg (by simp), onsetState, State.modPlayer_voice, learned]
    rfl
  · rw [frame, onsetState, State.modPlayer_freeQueue, State.modPlayer_stampCounter, learned]
    exact ⟨rfl, rfl⟩
  · rw [others q other, onsetState, State.player_modPlayer_other _ other, afterLearn_player]

/-- A confirming frame whose fingering matches nothing begins no note, pressed or not. -/
theorem execSenseFrame_of_unmatched_onset (accepted : AcceptedFrame s p f) (silent : (s.player p).note = none)
    (confirms : Confirms s p f) {records : List EventRecord} {replies : List Reply}
    (reports : LearnReports s p (senseFields f) records replies)
    (unmatched : onsetResolution (afterLearn s p (senseFields f)) p (senseFields f) = .unmatched) :
    ∃ t, exec (.senseFrame p f) s = .next t ∧ NoneDecided s p f false records replies t := by
  have breathing := completedState_breath confirms reports
  have note := (completedState_note confirms reports).trans silent
  have decided : decide p .onset (resolution (completedState s p f) p (senseFields f).contact) (completedState s p f) =
      completedState s p f := by
    rw [resolution_completedState confirms reports, unmatched, decide, note]
    rfl
  have seen := completedState_seen confirms reports
  have record : (onsetState s p f records replies).player p =
      { heardRecord s p f with learn := none }.telling records replies := State.player_modPlayer_self ..
  have still : ((onsetState s p f records replies).player p).note = none := by
    rw [record, PlayerState.telling_note]
    exact silent
  have breath : ((onsetState s p f records replies).player p).breath = .breathing := by
    rw [← seen, State.player_modPlayer_self]
    exact breathing
  have button : latchButton p (senseFields f).latch (updatePitch p (completedState s p f)) =
      onsetState s p f records replies := by
    have pressing : press p (onsetState s p f records replies) = onsetState s p f records replies := by
      rw [press_of_silent still, if_pos breath]
    rw [updatePitch_of_silent note, latchButton]
    change (if _ then press p ((completedState s p f).modPlayer p (PlayerState.seen (senseFields f).latch))
      else (completedState s p f).modPlayer p (PlayerState.seen (senseFields f).latch)) = _
    rw [seen, pressing, ite_self]
  have handed := handedOff_openSlot p f s (onsetState s p f records replies)
  refine ⟨_, exec_of_effect ((takeFrame_of_stands accepted.stands _).trans (takeSense_of_confirms accepted.up confirms)), ?_⟩
  rw [afterCompletion, ← completedState, decided, button,
    deferredSetup_of_not _ _ _ (.inr (.inr (.inl (by rw [handOff_player, breath]; simp))))]
  generalize settleLine s (openSlot p f.seq (senseFields f).replyOk (handOff p (onsetState s p f records replies))) = t at *
  exact .of_handedOff silent handed

/-- A frame that goes on BREATHING with no note begins none under HOLD or with an unmatched fingering. -/
theorem execSenseFrame_of_idle (accepted : AcceptedFrame s p f) (silent : (s.player p).note = none)
    (goesOn : GoesOn s p f)
    (idle : (s.activeSetup p).policy = .hold ∨ heldResolution s p (senseFields f) = .unmatched) :
    ∃ t, exec (.senseFrame p f) s = .next t ∧ NoneDecided s p f false [] [] t ∧ LearnFollows s p f t := by
  have start : changesAtStart s p f = false := changesAtStart_of_busy (by simp [goesOn.1]) (by simp [goesOn.1])
  have note : ((decidingState s p f).player p).note = none := by
    rw [decidingState_player]
    exact silent
  have decided := decide_of_silent (r := .none) (res := heldResolution s p (senseFields f)) (by simp) note
    (.inr (by rwa [decidingState_activeSetup]))
  have record := heardAccount_record_of_silent (f := f) silent
  obtain ⟨t, run, finished⟩ := exec_of_goesOn accepted goesOn record
    (by rw [decided]; exact heardAccount_holds_of_goesOn accepted.up goesOn)
  have none := NoneDecided.of_finished silent finished s
  have records : silentRecords s p f false = [] := by
    simp [silentRecords, accepted.up, start, changesAtEnd_of_goesOn goesOn]
  have replies : changeReplies s p f = [] := by simp [changeReplies, start, changesAtEnd_of_goesOn goesOn]
  rw [clearsStack_of_goesOn goesOn, records, replies] at none
  exact ⟨_, run, none, finished.learnFollows record rfl s⟩

end

end Sys2Proof.Machine


/-! Onsets that find a free voice for each layer. -/

namespace Sys2Proof.Machine

/-! ### Requests that are all granted (R91) -/

/-- The item of each granted layer. -/
def grantedItems (ls : List LayerId) (queue : List VoiceId) : List Binding :=
  List.zipWith (fun l v => { layer := l, item := .voice v }) ls queue

/-- What the requests for `ls` leave of `u` where the free queue serves each of them. -/
structure AllGranted (p : Player) (note current : Note) (ls : List LayerId) (u t : State) : Prop where
  frame : t = { u with
    voices := t.voices, freeQueue := u.freeQueue.drop ls.length,
    stampCounter := u.stampCounter + BitVec.ofNat 16 ls.length, players := t.players }
  fresh : ∀ i (h : i < ls.length) (h' : i < u.freeQueue.length), t.voice u.freeQueue[i] =
    freshVoice u p (u.setup note.setup) note.number (u.player p).bend note.tag ls[i]
      (u.stampCounter + BitVec.ofNat 16 (i + 1))
  rest : ∀ v, v ∉ u.freeQueue.take ls.length → t.voice v = u.voice v
  player : t.player p = { u.player p with
    held := (u.player p).held + ls.length
    note := some { current with binding := current.binding ++ grantedItems ls u.freeQueue } }
  others : SameOthers p u t

theorem AllGranted.nil {p : Player} {note current : Note} {u : State} (h : (u.player p).note = some current) :
    AllGranted p note current [] u u := by
  refine ⟨?_, nofun, fun _ _ => rfl, ?_, fun _ _ => rfl⟩
  · simp
  · simp [grantedItems, ← h]

/-- One more layer, granted first. -/
theorem AllGranted.cons {p : Player} {note current : Note} {u m t : State} {l : LayerId} {ls : List LayerId} {v : VoiceId}
    {queue : List VoiceId} (head : u.freeQueue = v :: queue) (once : u.freeQueue.Nodup)
    (frame : m = { u with
      voices := m.voices, freeQueue := queue, stampCounter := u.stampCounter + 1, players := m.players })
    (voice : m.voice v = freshVoice u p (u.setup note.setup) note.number (u.player p).bend note.tag l (u.stampCounter + 1))
    (otherVoices : SameOtherVoices v u m)
    (player : m.player p = { u.player p with
      held := (u.player p).held + 1
      note := some { current with binding := current.binding ++ [{ layer := l, item := .voice v }] } })
    (others : SameOthers p u m)
    (later : AllGranted p note { current with binding := current.binding ++ [{ layer := l, item := .voice v }] } ls m t) :
    AllGranted p note current (l :: ls) u t := by
  have queued : m.freeQueue = queue := by rw [frame]
  have stamp : m.stampCounter = u.stampCounter + 1 := by rw [frame]
  have absent : v ∉ queue := by
    rw [head] at once
    exact (List.nodup_cons.1 once).1
  have shift (i : Nat) : u.stampCounter + 1 + BitVec.ofNat 16 i = u.stampCounter + BitVec.ofNat 16 (i + 1) := by
    rw [BitVec.ofNat_add, add_assoc, add_comm (1 : BitVec 16)]
    rfl
  refine ⟨?_, fun i h h' => ?_, fun w absent_w => ?_, ?_, fun q other => ?_⟩
  · have whole := later.frame
    rw [queued, stamp, shift, frame] at whole
    rw [head]
    exact whole
  · cases i with
    | zero =>
      have here : u.freeQueue[0] = v := by simp [head]
      rw [here, later.rest v (by rw [queued]; exact fun mem => absent (List.mem_of_mem_take mem)), voice]
      rfl
    | succ i =>
      have within : i < m.freeQueue.length := by
        rw [head] at h'
        rw [queued]
        exact Nat.lt_of_succ_lt_succ h'
      have here : u.freeQueue[i + 1] = m.freeQueue[i] := by simp [head, queued]
      have bend : (m.player p).bend = (u.player p).bend := by rw [player]
      have tables : m.tuning = u.tuning ∧ m.setup note.setup = u.setup note.setup := by
        rw [frame]
        exact ⟨rfl, rfl⟩
      rw [here, later.fresh i (Nat.lt_of_succ_lt_succ h) within, stamp, shift, bend, tables.2]
      simp only [freshVoice, tables.1]
      rfl
  · rw [head, List.length_cons, List.take_succ_cons, List.mem_cons, not_or] at absent_w
    rw [later.rest w (by rw [queued]; exact absent_w.2), otherVoices w absent_w.1]
  · rw [later.player, player, queued, head]
    simp [grantedItems, Nat.add_assoc, Nat.add_comm 1]
  · rw [later.others q other, others q other]

theorem allGranted {p : Player} {note current : Note} {u : State} (h : (u.player p).note = some current)
    (once : u.freeQueue.Nodup) (ls : List LayerId) (voices : ls.length ≤ u.freeQueue.length)
    (ceiling : (u.player p).held + ls.length ≤ (u.player p).ceiling) :
    AllGranted p note current ls u (ls.foldl (fun t l => layerRequest p note l t) u) := by
  induction ls generalizing u current with
  | nil => exact .nil h
  | cons l ls ih =>
    cases head : u.freeQueue with
    | nil => simp [head] at voices
    | cons v queue =>
      rw [List.length_cons] at ceiling
      obtain ⟨frame, voice, otherVoices, player, others⟩ :=
        layerRequestsGrantOrDeny.1 p note l v queue u current (by omega) head h
      have queued : (layerRequest p note l u).freeQueue = queue := by rw [frame]
      refine .cons head once frame voice otherVoices player others (ih (by rw [player]) ?_ ?_ ?_)
      · rw [queued]
        rw [head] at once
        exact (List.nodup_cons.1 once).2
      · rw [queued]
        simpa [head] using voices
      · rw [player]
        dsimp only
        omega

theorem boundVoices_granted (note : Note) (ls : List LayerId) (queue : List VoiceId) :
    boundVoices { note with binding := grantedItems ls queue } = queue.take ls.length := by
  unfold boundVoices grantedItems
  dsimp only
  induction ls generalizing queue with
  | nil => rfl
  | cons l ls ih =>
    cases queue with
    | nil => rfl
    | cons v queue => exact congrArg (v :: ·) (ih queue)

/-- Where every item is granted, none is denied. -/
theorem grantedItems_filter (ls : List LayerId) (queue : List VoiceId) (voices : ls.length ≤ queue.length) :
    ((grantedItems ls queue).filter fun b => b.item ≠ .denied).length = ls.length ∧
      ((grantedItems ls queue).filter fun b => b.item = .denied) = [] := by
  have granted (b : Binding) (mem : b ∈ grantedItems ls queue) : b.item ≠ .denied := by
    obtain ⟨i, h, rfl⟩ := List.getElem_of_mem mem
    simp [grantedItems]
  constructor
  · rw [List.filter_eq_self.2 fun b mem => decide_eq_true (granted b mem), grantedItems, List.length_zipWith,
      Nat.min_eq_left voices]
  · exact List.filter_eq_nil_iff.2 fun b mem => by simp [granted b mem]

/-! ### The onset of a sufficient pool (R86, R87, R91) -/

/-- The note of an onset whose layers are all granted. -/
def grantedNote (s : State) (p : Player) (n : Nat) (flag : RangeFlag) : Note :=
  { newNote s p n flag with binding := grantedItems (enabledLayers (s.activeSetup p)) s.freeQueue }

theorem onsetDecision_granted {p : Player} {h : State} (pool : PoolSuffices h p) (n : Nat) (flag : RangeFlag) :
    let w := onsetDecision p n flag h
    let ls := enabledLayers (h.activeSetup p)
    w = { h with
      voices := w.voices, freeQueue := h.freeQueue.drop ls.length,
      stampCounter := h.stampCounter + BitVec.ofNat 16 ls.length, players := w.players } ∧
    (∀ i (_ : i < ls.length) (_ : i < h.freeQueue.length), w.voice h.freeQueue[i] =
      freshVoice h p (h.activeSetup p) n (h.player p).bend ((h.player p).tagCounter + 1) ls[i]
        (h.stampCounter + BitVec.ofNat 16 (i + 1))) ∧
    (∀ v, v ∉ h.freeQueue.take ls.length → w.voice v = h.voice v) ∧
    w.player p = PlayerState.queuedAll
      { h.player p with
        held := (h.player p).held + ls.length, tagCounter := (h.player p).tagCounter + 1
        note := some (grantedNote h p n flag) }
      [recordOf h .noteOn ((h.player p).tagCounter + 1) n flag.byte ls.length] ∧
    SameOthers p h w := by
  obtain ⟨items, note, -, -, frame, others, player⟩ := layerRequestsGrantOrDeny.2.2.2 p n flag h
  have began : (beginNote p (newNote h p n flag) h).player p =
      { h.player p with tagCounter := (newNote h p n flag).tag, note := some (newNote h p n flag) } :=
    State.player_modPlayer_self ..
  have granted := allGranted (p := p) (note := newNote h p n flag) (current := newNote h p n flag)
    (u := beginNote p (newNote h p n flag) h) (by rw [began]) pool.nodup (enabledLayers (h.activeSetup p)) pool.voices
    (by rw [began]; exact pool.ceiling)
  obtain ⟨u, layers⟩ : ∃ u, u = (enabledLayers (h.activeSetup p)).foldl
      (fun t l => layerRequest p (newNote h p n flag) l t) (beginNote p (newNote h p n flag) h) := ⟨_, rfl⟩
  rw [← layers] at granted
  replace note : (u.player p).note = some { newNote h p n flag with binding := items } := by rw [layers]; exact note
  replace frame : onsetDecision p n flag h = { u with players := (onsetDecision p n flag h).players } := by
    rw [layers]
    exact frame
  replace others : SameOthers p u (onsetDecision p n flag h) := by rw [layers]; exact others
  obtain ⟨grantedFrame, fresh, rest, grantedPlayer, grantedOthers⟩ := granted
  have bound : items = grantedItems (enabledLayers (h.activeSetup p)) h.freeQueue := by
    rw [grantedPlayer] at note
    exact (congrArg Note.binding (Option.some.inj note)).symm
  obtain ⟨count, none⟩ := grantedItems_filter (enabledLayers (h.activeSetup p)) h.freeQueue pool.voices
  rw [bound, count, none] at player
  replace player : (onsetDecision p n flag h).player p = (u.player p).queuedAll
      [recordOf h .noteOn ((h.player p).tagCounter + 1) n flag.byte (enabledLayers (h.activeSetup p)).length] := by
    rw [layers]
    exact player
  have voice (v : VoiceId) : (onsetDecision p n flag h).voice v = u.voice v := by rw [frame]; rfl
  dsimp only
  refine ⟨?_, fun i within queued => ?_, fun v absent => ?_, ?_, fun q other => ?_⟩
  · rw [frame, grantedFrame]
    rfl
  · rw [voice]
    refine (fresh i within queued).trans ?_
    rw [began]
    rfl
  · rw [voice]
    exact rest v absent
  · rw [player, grantedPlayer, began]
    rfl
  · rw [others q other, grantedOthers q other]
    exact State.player_modPlayer_other _ other _

/-! ### What an onset frame leaves (R17, R86, R87, R91) -/

/-- The part as the onset decision of a frame finds it: the frame is heard, and `before` and `replies` have been told. -/
structure HeardFor (s : State) (p : Player) (f : FrameBody) (before : List EventRecord) (replies : List Reply) (h : State) :
    Prop where
  frame : h = { s with players := h.players, charts := h.charts }
  others : SameOthers p s h
  player : ∃ learn, h.player p = { heardRecord s p f with learn := learn }.telling before replies

section
variable {s : State} {p : Player} {f : FrameBody} {before : List EventRecord} {replies : List Reply} {h : State}

/-- A player's record begins a note of `held` voices (R86, R91). -/
def PlayerState.begins (note : Note) (held : Nat) (ps : PlayerState) : PlayerState :=
  { ps with held := ps.held + held, tagCounter := ps.tagCounter + 1, note := some note }

theorem HeardFor.activeSetup (heard : HeardFor s p f before replies h) : h.activeSetup p = s.activeSetup p := by
  obtain ⟨frame, -, learn, player⟩ := heard
  rw [State.activeSetup, player, PlayerState.telling_active, frame]
  rfl

theorem HeardFor.poolSuffices (heard : HeardFor s p f before replies h) (pool : PoolSuffices s p) : PoolSuffices h p := by
  have setup := heard.activeSetup
  obtain ⟨frame, -, learn, player⟩ := heard
  have queue : h.freeQueue = s.freeQueue := by rw [frame]
  refine ⟨queue ▸ pool.nodup, ?_, ?_⟩
  · rw [setup, queue]
    exact pool.voices
  · rw [setup, player, PlayerState.telling_held, PlayerState.telling_ceiling]
    exact pool.ceiling

theorem OnsetTaken.of_handedOff {n : Nat} {flag : RangeFlag} {t : State} (heard : HeardFor s p f before replies h)
    (pool : PoolSuffices s p) (handed : HandedOff p f (onsetDecision p n flag h) t) :
    OnsetTaken s p f n flag before replies t := by
  obtain ⟨whole, fresh, rest, player, others⟩ := onsetDecision_granted (heard.poolSuffices pool) n flag
  have setup := heard.activeSetup
  obtain ⟨frame, heardOthers, learn, record⟩ := heard
  have tag : (h.player p).tagCounter = (s.player p).tagCounter := by rw [record, PlayerState.telling_tagCounter]; rfl
  have active : (h.player p).active = (s.player p).active := by rw [record, PlayerState.telling_active]; rfl
  have queue : h.freeQueue = s.freeQueue := by rw [frame]
  have stamp : h.stampCounter = s.stampCounter := by rw [frame]
  have note : grantedNote h p n flag = grantedNote s p n flag := by
    rw [grantedNote, newNote, tag, active, setup, queue]
    rfl
  have told : recordOf h .noteOn ((h.player p).tagCounter + 1) n flag.byte (enabledLayers (h.activeSetup p)).length =
      recordOf s .noteOn ((s.player p).tagCounter + 1) n flag.byte (enabledLayers (s.activeSetup p)).length := by
    rw [recordOf, tag, setup, frame]
    rfl
  rw [note, told] at player
  simp only [queue] at fresh rest
  rw [setup] at fresh rest player
  rw [tag, stamp] at fresh
  generalize onsetDecision p n flag h = w at *
  obtain ⟨after, handedVoices, opened, handedOthers⟩ := handed
  have bound : (w.player p).boundList = s.freeQueue.take (enabledLayers (s.activeSetup p)).length := by
    rw [player, PlayerState.boundList, PlayerState.queuedAll_note]
    exact boundVoices_granted ..
  have level : (w.player p).level = (t.player p).level := by rw [opened]
  have final : t.player p = (PlayerState.openSlot f (PlayerState.begins (grantedNote s p n flag)
      (enabledLayers (s.activeSetup p)).length { heardRecord s p f with learn := learn })).telling
      (before ++ [recordOf s .noteOn ((s.player p).tagCounter + 1) n flag.byte (enabledLayers (s.activeSetup p)).length])
      replies := by
    have begun : w.player p = (PlayerState.begins (grantedNote s p n flag) (enabledLayers (s.activeSetup p)).length
        (h.player p)).queuedAll
        [recordOf s .noteOn ((s.player p).tagCounter + 1) n flag.byte (enabledLayers (s.activeSetup p)).length] := player
    rw [record, PlayerState.telling_update _ _ _ (PlayerState.begins _ _) (fun _ _ _ => rfl) fun _ _ _ => rfl,
      PlayerState.telling_queuedAll] at begun
    refine opened.trans ?_
    rw [begun]
    exact PlayerState.telling_update _ _ _ (PlayerState.openSlot f) (fun _ _ _ => rfl) fun _ _ _ => rfl
  refine ⟨?_, ?_, ?_, ?_, fun i within queued => ?_, ?_, fun v absent => ?_, tells_of_telling final rfl rfl rfl rfl,
    fun q other => ?_, ?_⟩
  · rw [final, PlayerState.telling_note]; rfl
  · rw [final, PlayerState.telling_tagCounter]; rfl
  · rw [final, PlayerState.telling_held]; rfl
  · rw [after, whole, setup, queue]
  · have mem : s.freeQueue[i] ∈ s.freeQueue.take (enabledLayers (s.activeSetup p)).length :=
      List.mem_take_iff_getElem.2 ⟨i, lt_min within queued, rfl⟩
    have sounding : (w.voice s.freeQueue[i]).state = .sounding := by rw [fresh i within queued]; rfl
    have bend : (h.player p).bend = (t.player p).bend := by
      rw [record, PlayerState.telling_bend, final, PlayerState.telling_bend]
      rfl
    have tuning : h.tuning = s.tuning := by rw [frame]
    rw [handedVoices, bound, if_pos ⟨mem, sounding⟩, level, fresh i within queued, bend]
    simp only [freshVoice, tuning]
  · rw [after, whole, setup, stamp]
  · rw [handedVoices, bound, if_neg fun both => absent both.1, rest v absent, frame]
    rfl
  · rw [handedOthers q other, others q other, heardOthers q other]
  · rw [final, PlayerState.telling_latch]; rfl

theorem heardFor_onsetState (records : List EventRecord) (replies : List Reply) :
    HeardFor s p f records replies (onsetState s p f records replies) where
  frame := by
    rw [onsetState, afterLearn_eq]
    rfl
  others q other := by rw [onsetState, State.player_modPlayer_other _ other, afterLearn_player]
  player := ⟨none, State.player_modPlayer_self ..⟩

theorem heardFor_heardState : HeardFor s p f [] [] (heardState s p f) where
  frame := rfl
  others _ other := State.player_modPlayer_other _ other _
  player := ⟨(heardRecord s p f).learn, State.player_modPlayer_self ..⟩

/-- An onset of a player that goes on BREATHING leaves a pending learn alone (R58). -/
theorem learnFollows_of_heardOnset {n : Nat} {flag : RangeFlag} {t : State} (goesOn : GoesOn s p f)
    (handed : HandedOff p f (onsetDecision p n flag (heardState s p f)) t) : LearnFollows s p f t := by
  have sounds := SoundsOnly.onsetDecision p n flag (heardState s p f)
  obtain ⟨frame, -, player, -⟩ := handed
  refine learnFollows_of_goesOn goesOn ?_ ?_
  · rw [player]
    dsimp only
    rw [(sounds.2 p).1, heardState, State.player_modPlayer_self]
    rfl
  · rw [frame]
    dsimp only
    rw [sounds.1]
    rfl

end

/-- Settles O26: every onset frame is the decision over the heard part, the press and the hand-off; where the pool
suffices, its requests are granted one by one. -/
theorem onsetSoundsEnabledLayers : Obligations.OnsetSoundsEnabledLayers := by
  refine fun p f s accepted silent =>
    ⟨fun n flag records replies confirms reports matched unpressed pool => ?_,
      fun n flag records replies confirms reports matched =>
        execSenseFrame_of_onset accepted silent confirms reports matched,
      fun records replies confirms reports unmatched =>
        execSenseFrame_of_unmatched_onset accepted silent confirms reports unmatched,
      fun n flag goesOn policy matched unpressed pool => ?_,
      fun n flag goesOn policy matched => execSenseFrame_of_held accepted silent goesOn policy matched,
      fun goesOn idle => execSenseFrame_of_idle accepted silent goesOn idle⟩
  · obtain ⟨t, run, handed⟩ := execSenseFrame_of_onset accepted silent confirms reports matched
    rw [unpressed, if_neg Bool.false_ne_true] at handed
    exact ⟨t, run, .of_handedOff (heardFor_onsetState records replies) pool handed⟩
  · obtain ⟨t, run, handed⟩ := execSenseFrame_of_held accepted silent goesOn policy matched
    rw [unpressed, if_neg Bool.false_ne_true] at handed
    exact ⟨t, run, .of_handedOff heardFor_heardState pool handed, learnFollows_of_heardOnset goesOn handed⟩

end Sys2Proof.Machine
